-- ==== Sys2Proof/Word.lean ====
section
/-! DEFINITION. The two widths of the machine (00_scope.md R8): bytes and 16-bit words. -/

namespace Sys2Proof

/-- A byte: the unit of every bus access and the width of the general registers (R8). -/
abbrev Byte := BitVec 8

/-- A 16-bit word: bus addresses, the register pairs, SP and PC (R8). -/
abbrev Word := BitVec 16

end Sys2Proof
end

