-- ==== Sys2Proof/Syntax.lean ====
section
/-! DEFINITION. The instruction set: one constructor per row of spec/opcode_table.json, and the operand fields of 30_encoding.md
R102 to R106. The rows with operand bytes stand first (Lean compiles constructors with fields only among the first 244), the others
after them in the table's order. Base rows carry the operand bytes of their format (R101); a row after 0xCB is one constructor of
its own, named `cb…`. -/

namespace Sys2Proof

/-- The eight codes of the register field less 110 (R102). -/
inductive Reg8 where
  | b | c | d | e | h | l | a
  deriving DecidableEq, Repr

/-- What a register field names (R102): a register, or, for code 110, the memory byte at HL. -/
inductive Operand8 where
  | reg (r : Reg8)
  | atHl
  deriving DecidableEq, Repr

/-- The pair field `rp` (R103). -/
inductive Pair where
  | bc | de | hl | sp
  deriving DecidableEq, Repr

/-- The pair field `rp2` of PUSH and POP (R103). -/
inductive StackPair where
  | bc | de | hl | af
  deriving DecidableEq, Repr

/-- The condition field (R104, R200). -/
inductive Cond where
  | nz | z | nc | c
  deriving DecidableEq, Repr

/-- The ALU operation field (R105). -/
inductive AluOp where
  | add | adc | sub | sbc | and | xor | or | cp
  deriving DecidableEq, Repr

/-- The shift field of the extended space (R106). -/
inductive ShiftOp where
  | rlc | rrc | rl | rr | sla | sra | swap | srl
  deriving DecidableEq, Repr

/-- The instructions, one constructor per row of the opcode table. `prefixCb` is the row of the prefix byte itself (R115); no
decoding yields it (WellFormed.lean, assumption log 12). -/
inductive Instr where
  /-- `LD BC,nn`, 01. R140. -/
  | ldBcNn (nn : Word)
  /-- `LD B,n`, 06. R121. -/
  | ldBN (n : Byte)
  /-- `LD (nn),SP`, 08. R141. -/
  | ldAtNnSp (nn : Word)
  /-- `LD C,n`, 0E. R121. -/
  | ldCN (n : Byte)
  /-- `LD DE,nn`, 11. R140. -/
  | ldDeNn (nn : Word)
  /-- `LD D,n`, 16. R121. -/
  | ldDN (n : Byte)
  /-- `JR e`, 18. R204. -/
  | jrDisp (e : Byte)
  /-- `LD E,n`, 1E. R121. -/
  | ldEN (n : Byte)
  /-- `JR NZ,e`, 20. R205. -/
  | jrNzDisp (e : Byte)
  /-- `LD HL,nn`, 21. R140. -/
  | ldHlNn (nn : Word)
  /-- `LD H,n`, 26. R121. -/
  | ldHN (n : Byte)
  /-- `JR Z,e`, 28. R205. -/
  | jrZDisp (e : Byte)
  /-- `LD L,n`, 2E. R121. -/
  | ldLN (n : Byte)
  /-- `JR NC,e`, 30. R205. -/
  | jrNcDisp (e : Byte)
  /-- `LD SP,nn`, 31. R140. -/
  | ldSpNn (nn : Word)
  /-- `LD (HL),n`, 36. R124. -/
  | ldAtHlN (n : Byte)
  /-- `JR C,e`, 38. R205. -/
  | jrCyDisp (e : Byte)
  /-- `LD A,n`, 3E. R121. -/
  | ldAN (n : Byte)
  /-- `JP NZ,nn`, C2. R202. -/
  | jpNzNn (nn : Word)
  /-- `JP nn`, C3. R201. -/
  | jpNn (nn : Word)
  /-- `CALL NZ,nn`, C4. R207. -/
  | callNzNn (nn : Word)
  /-- `ADD A,n`, C6. R151. -/
  | addAN (n : Byte)
  /-- `JP Z,nn`, CA. R202. -/
  | jpZNn (nn : Word)
  /-- `PREFIX CB`, CB. R115. -/
  | prefixCb (op2 : Byte)
  /-- `CALL Z,nn`, CC. R207. -/
  | callZNn (nn : Word)
  /-- `CALL nn`, CD. R206. -/
  | callNn (nn : Word)
  /-- `ADC A,n`, CE. R152. -/
  | adcAN (n : Byte)
  /-- `JP NC,nn`, D2. R202. -/
  | jpNcNn (nn : Word)
  /-- `CALL NC,nn`, D4. R207. -/
  | callNcNn (nn : Word)
  /-- `SUB n`, D6. R153. -/
  | subN (n : Byte)
  /-- `JP C,nn`, DA. R202. -/
  | jpCyNn (nn : Word)
  /-- `CALL C,nn`, DC. R207. -/
  | callCyNn (nn : Word)
  /-- `SBC A,n`, DE. R154. -/
  | sbcAN (n : Byte)
  /-- `LDH (n),A`, E0. R132. -/
  | ldhAtNA (n : Byte)
  /-- `AND n`, E6. R155. -/
  | andN (n : Byte)
  /-- `ADD SP,e`, E8. R173. -/
  | addSpDisp (e : Byte)
  /-- `LD (nn),A`, EA. R130. -/
  | ldAtNnA (nn : Word)
  /-- `XOR n`, EE. R156. -/
  | xorN (n : Byte)
  /-- `LDH A,(n)`, F0. R131. -/
  | ldhAAtN (n : Byte)
  /-- `OR n`, F6. R157. -/
  | orN (n : Byte)
  /-- `LD HL,SP+e`, F8. R174. -/
  | ldHlSpDisp (e : Byte)
  /-- `LD A,(nn)`, FA. R129. -/
  | ldAAtNn (nn : Word)
  /-- `CP n`, FE. R158. -/
  | cpN (n : Byte)
  /-- `NOP`, 00. R215. -/
  | nop
  /-- `LD (BC),A`, 02. R127. -/
  | ldAtBcA
  /-- `INC BC`, 03. R170. -/
  | incBc
  /-- `INC B`, 04. R159. -/
  | incB
  /-- `DEC B`, 05. R160. -/
  | decB
  /-- `RLCA`, 07. R180. -/
  | rlca
  /-- `ADD HL,BC`, 09. R172. -/
  | addHlBc
  /-- `LD A,(BC)`, 0A. R125. -/
  | ldAAtBc
  /-- `DEC BC`, 0B. R171. -/
  | decBc
  /-- `INC C`, 0C. R159. -/
  | incC
  /-- `DEC C`, 0D. R160. -/
  | decC
  /-- `RRCA`, 0F. R181. -/
  | rrca
  /-- `STOP`, 10. R217. -/
  | stop
  /-- `LD (DE),A`, 12. R128. -/
  | ldAtDeA
  /-- `INC DE`, 13. R170. -/
  | incDe
  /-- `INC D`, 14. R159. -/
  | incD
  /-- `DEC D`, 15. R160. -/
  | decD
  /-- `RLA`, 17. R182. -/
  | rla
  /-- `ADD HL,DE`, 19. R172. -/
  | addHlDe
  /-- `LD A,(DE)`, 1A. R126. -/
  | ldAAtDe
  /-- `DEC DE`, 1B. R171. -/
  | decDe
  /-- `INC E`, 1C. R159. -/
  | incE
  /-- `DEC E`, 1D. R160. -/
  | decE
  /-- `RRA`, 1F. R183. -/
  | rra
  /-- `LD (HL+),A`, 22. R137. -/
  | ldAtHlIncA
  /-- `INC HL`, 23. R170. -/
  | incHl
  /-- `INC H`, 24. R159. -/
  | incH
  /-- `DEC H`, 25. R160. -/
  | decH
  /-- `DAA`, 27. R164. -/
  | daa
  /-- `ADD HL,HL`, 29. R172. -/
  | addHlHl
  /-- `LD A,(HL+)`, 2A. R135. -/
  | ldAAtHlInc
  /-- `DEC HL`, 2B. R171. -/
  | decHl
  /-- `INC L`, 2C. R159. -/
  | incL
  /-- `DEC L`, 2D. R160. -/
  | decL
  /-- `CPL`, 2F. R165. -/
  | cplA
  /-- `LD (HL-),A`, 32. R138. -/
  | ldAtHlDecA
  /-- `INC SP`, 33. R170. -/
  | incSp
  /-- `INC (HL)`, 34. R162. -/
  | incAtHl
  /-- `DEC (HL)`, 35. R163. -/
  | decAtHl
  /-- `SCF`, 37. R166. -/
  | scf
  /-- `ADD HL,SP`, 39. R172. -/
  | addHlSp
  /-- `LD A,(HL-)`, 3A. R136. -/
  | ldAAtHlDec
  /-- `DEC SP`, 3B. R171. -/
  | decSp
  /-- `INC A`, 3C. R159. -/
  | incA
  /-- `DEC A`, 3D. R160. -/
  | decA
  /-- `CCF`, 3F. R167. -/
  | ccf
  /-- `LD B,B`, 40. R120. -/
  | ldBB
  /-- `LD B,C`, 41. R120. -/
  | ldBC
  /-- `LD B,D`, 42. R120. -/
  | ldBD
  /-- `LD B,E`, 43. R120. -/
  | ldBE
  /-- `LD B,H`, 44. R120. -/
  | ldBH
  /-- `LD B,L`, 45. R120. -/
  | ldBL
  /-- `LD B,(HL)`, 46. R122. -/
  | ldBAtHl
  /-- `LD B,A`, 47. R120. -/
  | ldBA
  /-- `LD C,B`, 48. R120. -/
  | ldCB
  /-- `LD C,C`, 49. R120. -/
  | ldCC
  /-- `LD C,D`, 4A. R120. -/
  | ldCD
  /-- `LD C,E`, 4B. R120. -/
  | ldCE
  /-- `LD C,H`, 4C. R120. -/
  | ldCH
  /-- `LD C,L`, 4D. R120. -/
  | ldCL
  /-- `LD C,(HL)`, 4E. R122. -/
  | ldCAtHl
  /-- `LD C,A`, 4F. R120. -/
  | ldCA
  /-- `LD D,B`, 50. R120. -/
  | ldDB
  /-- `LD D,C`, 51. R120. -/
  | ldDC
  /-- `LD D,D`, 52. R120. -/
  | ldDD
  /-- `LD D,E`, 53. R120. -/
  | ldDE
  /-- `LD D,H`, 54. R120. -/
  | ldDH
  /-- `LD D,L`, 55. R120. -/
  | ldDL
  /-- `LD D,(HL)`, 56. R122. -/
  | ldDAtHl
  /-- `LD D,A`, 57. R120. -/
  | ldDA
  /-- `LD E,B`, 58. R120. -/
  | ldEB
  /-- `LD E,C`, 59. R120. -/
  | ldEC
  /-- `LD E,D`, 5A. R120. -/
  | ldED
  /-- `LD E,E`, 5B. R120. -/
  | ldEE
  /-- `LD E,H`, 5C. R120. -/
  | ldEH
  /-- `LD E,L`, 5D. R120. -/
  | ldEL
  /-- `LD E,(HL)`, 5E. R122. -/
  | ldEAtHl
  /-- `LD E,A`, 5F. R120. -/
  | ldEA
  /-- `LD H,B`, 60. R120. -/
  | ldHB
  /-- `LD H,C`, 61. R120. -/
  | ldHC
  /-- `LD H,D`, 62. R120. -/
  | ldHD
  /-- `LD H,E`, 63. R120. -/
  | ldHE
  /-- `LD H,H`, 64. R120. -/
  | ldHH
  /-- `LD H,L`, 65. R120. -/
  | ldHL
  /-- `LD H,(HL)`, 66. R122. -/
  | ldHAtHl
  /-- `LD H,A`, 67. R120. -/
  | ldHA
  /-- `LD L,B`, 68. R120. -/
  | ldLB
  /-- `LD L,C`, 69. R120. -/
  | ldLC
  /-- `LD L,D`, 6A. R120. -/
  | ldLD
  /-- `LD L,E`, 6B. R120. -/
  | ldLE
  /-- `LD L,H`, 6C. R120. -/
  | ldLH
  /-- `LD L,L`, 6D. R120. -/
  | ldLL
  /-- `LD L,(HL)`, 6E. R122. -/
  | ldLAtHl
  /-- `LD L,A`, 6F. R120. -/
  | ldLA
  /-- `LD (HL),B`, 70. R123. -/
  | ldAtHlB
  /-- `LD (HL),C`, 71. R123. -/
  | ldAtHlC
  /-- `LD (HL),D`, 72. R123. -/
  | ldAtHlD
  /-- `LD (HL),E`, 73. R123. -/
  | ldAtHlE
  /-- `LD (HL),H`, 74. R123. -/
  | ldAtHlH
  /-- `LD (HL),L`, 75. R123. -/
  | ldAtHlL
  /-- `HALT`, 76. R216. -/
  | halt
  /-- `LD (HL),A`, 77. R123. -/
  | ldAtHlA
  /-- `LD A,B`, 78. R120. -/
  | ldAB
  /-- `LD A,C`, 79. R120. -/
  | ldAC
  /-- `LD A,D`, 7A. R120. -/
  | ldAD
  /-- `LD A,E`, 7B. R120. -/
  | ldAE
  /-- `LD A,H`, 7C. R120. -/
  | ldAH
  /-- `LD A,L`, 7D. R120. -/
  | ldAL
  /-- `LD A,(HL)`, 7E. R122. -/
  | ldAAtHl
  /-- `LD A,A`, 7F. R120. -/
  | ldAA
  /-- `ADD A,B`, 80. R151. -/
  | addAB
  /-- `ADD A,C`, 81. R151. -/
  | addAC
  /-- `ADD A,D`, 82. R151. -/
  | addAD
  /-- `ADD A,E`, 83. R151. -/
  | addAE
  /-- `ADD A,H`, 84. R151. -/
  | addAH
  /-- `ADD A,L`, 85. R151. -/
  | addAL
  /-- `ADD A,(HL)`, 86. R151. -/
  | addAAtHl
  /-- `ADD A,A`, 87. R151. -/
  | addAA
  /-- `ADC A,B`, 88. R152. -/
  | adcAB
  /-- `ADC A,C`, 89. R152. -/
  | adcAC
  /-- `ADC A,D`, 8A. R152. -/
  | adcAD
  /-- `ADC A,E`, 8B. R152. -/
  | adcAE
  /-- `ADC A,H`, 8C. R152. -/
  | adcAH
  /-- `ADC A,L`, 8D. R152. -/
  | adcAL
  /-- `ADC A,(HL)`, 8E. R152. -/
  | adcAAtHl
  /-- `ADC A,A`, 8F. R152. -/
  | adcAA
  /-- `SUB B`, 90. R153. -/
  | subB
  /-- `SUB C`, 91. R153. -/
  | subC
  /-- `SUB D`, 92. R153. -/
  | subD
  /-- `SUB E`, 93. R153. -/
  | subE
  /-- `SUB H`, 94. R153. -/
  | subH
  /-- `SUB L`, 95. R153. -/
  | subL
  /-- `SUB (HL)`, 96. R153. -/
  | subAtHl
  /-- `SUB A`, 97. R153. -/
  | subA
  /-- `SBC A,B`, 98. R154. -/
  | sbcAB
  /-- `SBC A,C`, 99. R154. -/
  | sbcAC
  /-- `SBC A,D`, 9A. R154. -/
  | sbcAD
  /-- `SBC A,E`, 9B. R154. -/
  | sbcAE
  /-- `SBC A,H`, 9C. R154. -/
  | sbcAH
  /-- `SBC A,L`, 9D. R154. -/
  | sbcAL
  /-- `SBC A,(HL)`, 9E. R154. -/
  | sbcAAtHl
  /-- `SBC A,A`, 9F. R154. -/
  | sbcAA
  /-- `AND B`, A0. R155. -/
  | andB
  /-- `AND C`, A1. R155. -/
  | andC
  /-- `AND D`, A2. R155. -/
  | andD
  /-- `AND E`, A3. R155. -/
  | andE
  /-- `AND H`, A4. R155. -/
  | andH
  /-- `AND L`, A5. R155. -/
  | andL
  /-- `AND (HL)`, A6. R155. -/
  | andAtHl
  /-- `AND A`, A7. R155. -/
  | andA
  /-- `XOR B`, A8. R156. -/
  | xorB
  /-- `XOR C`, A9. R156. -/
  | xorC
  /-- `XOR D`, AA. R156. -/
  | xorD
  /-- `XOR E`, AB. R156. -/
  | xorE
  /-- `XOR H`, AC. R156. -/
  | xorH
  /-- `XOR L`, AD. R156. -/
  | xorL
  /-- `XOR (HL)`, AE. R156. -/
  | xorAtHl
  /-- `XOR A`, AF. R156. -/
  | xorA
  /-- `OR B`, B0. R157. -/
  | orB
  /-- `OR C`, B1. R157. -/
  | orC
  /-- `OR D`, B2. R157. -/
  | orD
  /-- `OR E`, B3. R157. -/
  | orE
  /-- `OR H`, B4. R157. -/
  | orH
  /-- `OR L`, B5. R157. -/
  | orL
  /-- `OR (HL)`, B6. R157. -/
  | orAtHl
  /-- `OR A`, B7. R157. -/
  | orA
  /-- `CP B`, B8. R158. -/
  | cpB
  /-- `CP C`, B9. R158. -/
  | cpC
  /-- `CP D`, BA. R158. -/
  | cpD
  /-- `CP E`, BB. R158. -/
  | cpE
  /-- `CP H`, BC. R158. -/
  | cpH
  /-- `CP L`, BD. R158. -/
  | cpL
  /-- `CP (HL)`, BE. R158. -/
  | cpAtHl
  /-- `CP A`, BF. R158. -/
  | cpA
  /-- `RET NZ`, C0. R209. -/
  | retNz
  /-- `POP BC`, C1. R144. -/
  | popBc
  /-- `PUSH BC`, C5. R143. -/
  | pushBc
  /-- `RST 00h`, C7. R210. -/
  | rst00
  /-- `RET Z`, C8. R209. -/
  | retZ
  /-- `RET`, C9. R208. -/
  | ret
  /-- `RST 08h`, CF. R210. -/
  | rst08
  /-- `RET NC`, D0. R209. -/
  | retNc
  /-- `POP DE`, D1. R144. -/
  | popDe
  /-- illegal byte, D3. R113. -/
  | illegalD3
  /-- `PUSH DE`, D5. R143. -/
  | pushDe
  /-- `RST 10h`, D7. R210. -/
  | rst10
  /-- `RET C`, D8. R209. -/
  | retCy
  /-- `RETI`, D9. R211. -/
  | reti
  /-- illegal byte, DB. R113. -/
  | illegalDB
  /-- illegal byte, DD. R113. -/
  | illegalDD
  /-- `RST 18h`, DF. R210. -/
  | rst18
  /-- `POP HL`, E1. R144. -/
  | popHl
  /-- `LD (C),A`, E2. R134. -/
  | ldAtCA
  /-- illegal byte, E3. R113. -/
  | illegalE3
  /-- illegal byte, E4. R113. -/
  | illegalE4
  /-- `PUSH HL`, E5. R143. -/
  | pushHl
  /-- `RST 20h`, E7. R210. -/
  | rst20
  /-- `JP HL`, E9. R203. -/
  | jpHl
  /-- illegal byte, EB. R113. -/
  | illegalEB
  /-- illegal byte, EC. R113. -/
  | illegalEC
  /-- illegal byte, ED. R113. -/
  | illegalED
  /-- `RST 28h`, EF. R210. -/
  | rst28
  /-- `POP AF`, F1. R145. -/
  | popAf
  /-- `LD A,(C)`, F2. R133. -/
  | ldAAtC
  /-- `DI`, F3. R218. -/
  | di
  /-- illegal byte, F4. R113. -/
  | illegalF4
  /-- `PUSH AF`, F5. R143. -/
  | pushAf
  /-- `RST 30h`, F7. R210. -/
  | rst30
  /-- `LD SP,HL`, F9. R142. -/
  | ldSpHl
  /-- `EI`, FB. R219. -/
  | ei
  /-- illegal byte, FC. R113. -/
  | illegalFC
  /-- illegal byte, FD. R113. -/
  | illegalFD
  /-- `RST 38h`, FF. R210. -/
  | rst38
  /-- `RLC B`, CB 00. R184. -/
  | cbRlcB
  /-- `RLC C`, CB 01. R184. -/
  | cbRlcC
  /-- `RLC D`, CB 02. R184. -/
  | cbRlcD
  /-- `RLC E`, CB 03. R184. -/
  | cbRlcE
  /-- `RLC H`, CB 04. R184. -/
  | cbRlcH
  /-- `RLC L`, CB 05. R184. -/
  | cbRlcL
  /-- `RLC (HL)`, CB 06. R184. -/
  | cbRlcAtHl
  /-- `RLC A`, CB 07. R184. -/
  | cbRlcA
  /-- `RRC B`, CB 08. R185. -/
  | cbRrcB
  /-- `RRC C`, CB 09. R185. -/
  | cbRrcC
  /-- `RRC D`, CB 0A. R185. -/
  | cbRrcD
  /-- `RRC E`, CB 0B. R185. -/
  | cbRrcE
  /-- `RRC H`, CB 0C. R185. -/
  | cbRrcH
  /-- `RRC L`, CB 0D. R185. -/
  | cbRrcL
  /-- `RRC (HL)`, CB 0E. R185. -/
  | cbRrcAtHl
  /-- `RRC A`, CB 0F. R185. -/
  | cbRrcA
  /-- `RL B`, CB 10. R186. -/
  | cbRlB
  /-- `RL C`, CB 11. R186. -/
  | cbRlC
  /-- `RL D`, CB 12. R186. -/
  | cbRlD
  /-- `RL E`, CB 13. R186. -/
  | cbRlE
  /-- `RL H`, CB 14. R186. -/
  | cbRlH
  /-- `RL L`, CB 15. R186. -/
  | cbRlL
  /-- `RL (HL)`, CB 16. R186. -/
  | cbRlAtHl
  /-- `RL A`, CB 17. R186. -/
  | cbRlA
  /-- `RR B`, CB 18. R187. -/
  | cbRrB
  /-- `RR C`, CB 19. R187. -/
  | cbRrC
  /-- `RR D`, CB 1A. R187. -/
  | cbRrD
  /-- `RR E`, CB 1B. R187. -/
  | cbRrE
  /-- `RR H`, CB 1C. R187. -/
  | cbRrH
  /-- `RR L`, CB 1D. R187. -/
  | cbRrL
  /-- `RR (HL)`, CB 1E. R187. -/
  | cbRrAtHl
  /-- `RR A`, CB 1F. R187. -/
  | cbRrA
  /-- `SLA B`, CB 20. R188. -/
  | cbSlaB
  /-- `SLA C`, CB 21. R188. -/
  | cbSlaC
  /-- `SLA D`, CB 22. R188. -/
  | cbSlaD
  /-- `SLA E`, CB 23. R188. -/
  | cbSlaE
  /-- `SLA H`, CB 24. R188. -/
  | cbSlaH
  /-- `SLA L`, CB 25. R188. -/
  | cbSlaL
  /-- `SLA (HL)`, CB 26. R188. -/
  | cbSlaAtHl
  /-- `SLA A`, CB 27. R188. -/
  | cbSlaA
  /-- `SRA B`, CB 28. R189. -/
  | cbSraB
  /-- `SRA C`, CB 29. R189. -/
  | cbSraC
  /-- `SRA D`, CB 2A. R189. -/
  | cbSraD
  /-- `SRA E`, CB 2B. R189. -/
  | cbSraE
  /-- `SRA H`, CB 2C. R189. -/
  | cbSraH
  /-- `SRA L`, CB 2D. R189. -/
  | cbSraL
  /-- `SRA (HL)`, CB 2E. R189. -/
  | cbSraAtHl
  /-- `SRA A`, CB 2F. R189. -/
  | cbSraA
  /-- `SWAP B`, CB 30. R190. -/
  | cbSwapB
  /-- `SWAP C`, CB 31. R190. -/
  | cbSwapC
  /-- `SWAP D`, CB 32. R190. -/
  | cbSwapD
  /-- `SWAP E`, CB 33. R190. -/
  | cbSwapE
  /-- `SWAP H`, CB 34. R190. -/
  | cbSwapH
  /-- `SWAP L`, CB 35. R190. -/
  | cbSwapL
  /-- `SWAP (HL)`, CB 36. R190. -/
  | cbSwapAtHl
  /-- `SWAP A`, CB 37. R190. -/
  | cbSwapA
  /-- `SRL B`, CB 38. R191. -/
  | cbSrlB
  /-- `SRL C`, CB 39. R191. -/
  | cbSrlC
  /-- `SRL D`, CB 3A. R191. -/
  | cbSrlD
  /-- `SRL E`, CB 3B. R191. -/
  | cbSrlE
  /-- `SRL H`, CB 3C. R191. -/
  | cbSrlH
  /-- `SRL L`, CB 3D. R191. -/
  | cbSrlL
  /-- `SRL (HL)`, CB 3E. R191. -/
  | cbSrlAtHl
  /-- `SRL A`, CB 3F. R191. -/
  | cbSrlA
  /-- `BIT 0,B`, CB 40. R195. -/
  | cbBit0B
  /-- `BIT 0,C`, CB 41. R195. -/
  | cbBit0C
  /-- `BIT 0,D`, CB 42. R195. -/
  | cbBit0D
  /-- `BIT 0,E`, CB 43. R195. -/
  | cbBit0E
  /-- `BIT 0,H`, CB 44. R195. -/
  | cbBit0H
  /-- `BIT 0,L`, CB 45. R195. -/
  | cbBit0L
  /-- `BIT 0,(HL)`, CB 46. R195. -/
  | cbBit0AtHl
  /-- `BIT 0,A`, CB 47. R195. -/
  | cbBit0A
  /-- `BIT 1,B`, CB 48. R195. -/
  | cbBit1B
  /-- `BIT 1,C`, CB 49. R195. -/
  | cbBit1C
  /-- `BIT 1,D`, CB 4A. R195. -/
  | cbBit1D
  /-- `BIT 1,E`, CB 4B. R195. -/
  | cbBit1E
  /-- `BIT 1,H`, CB 4C. R195. -/
  | cbBit1H
  /-- `BIT 1,L`, CB 4D. R195. -/
  | cbBit1L
  /-- `BIT 1,(HL)`, CB 4E. R195. -/
  | cbBit1AtHl
  /-- `BIT 1,A`, CB 4F. R195. -/
  | cbBit1A
  /-- `BIT 2,B`, CB 50. R195. -/
  | cbBit2B
  /-- `BIT 2,C`, CB 51. R195. -/
  | cbBit2C
  /-- `BIT 2,D`, CB 52. R195. -/
  | cbBit2D
  /-- `BIT 2,E`, CB 53. R195. -/
  | cbBit2E
  /-- `BIT 2,H`, CB 54. R195. -/
  | cbBit2H
  /-- `BIT 2,L`, CB 55. R195. -/
  | cbBit2L
  /-- `BIT 2,(HL)`, CB 56. R195. -/
  | cbBit2AtHl
  /-- `BIT 2,A`, CB 57. R195. -/
  | cbBit2A
  /-- `BIT 3,B`, CB 58. R195. -/
  | cbBit3B
  /-- `BIT 3,C`, CB 59. R195. -/
  | cbBit3C
  /-- `BIT 3,D`, CB 5A. R195. -/
  | cbBit3D
  /-- `BIT 3,E`, CB 5B. R195. -/
  | cbBit3E
  /-- `BIT 3,H`, CB 5C. R195. -/
  | cbBit3H
  /-- `BIT 3,L`, CB 5D. R195. -/
  | cbBit3L
  /-- `BIT 3,(HL)`, CB 5E. R195. -/
  | cbBit3AtHl
  /-- `BIT 3,A`, CB 5F. R195. -/
  | cbBit3A
  /-- `BIT 4,B`, CB 60. R195. -/
  | cbBit4B
  /-- `BIT 4,C`, CB 61. R195. -/
  | cbBit4C
  /-- `BIT 4,D`, CB 62. R195. -/
  | cbBit4D
  /-- `BIT 4,E`, CB 63. R195. -/
  | cbBit4E
  /-- `BIT 4,H`, CB 64. R195. -/
  | cbBit4H
  /-- `BIT 4,L`, CB 65. R195. -/
  | cbBit4L
  /-- `BIT 4,(HL)`, CB 66. R195. -/
  | cbBit4AtHl
  /-- `BIT 4,A`, CB 67. R195. -/
  | cbBit4A
  /-- `BIT 5,B`, CB 68. R195. -/
  | cbBit5B
  /-- `BIT 5,C`, CB 69. R195. -/
  | cbBit5C
  /-- `BIT 5,D`, CB 6A. R195. -/
  | cbBit5D
  /-- `BIT 5,E`, CB 6B. R195. -/
  | cbBit5E
  /-- `BIT 5,H`, CB 6C. R195. -/
  | cbBit5H
  /-- `BIT 5,L`, CB 6D. R195. -/
  | cbBit5L
  /-- `BIT 5,(HL)`, CB 6E. R195. -/
  | cbBit5AtHl
  /-- `BIT 5,A`, CB 6F. R195. -/
  | cbBit5A
  /-- `BIT 6,B`, CB 70. R195. -/
  | cbBit6B
  /-- `BIT 6,C`, CB 71. R195. -/
  | cbBit6C
  /-- `BIT 6,D`, CB 72. R195. -/
  | cbBit6D
  /-- `BIT 6,E`, CB 73. R195. -/
  | cbBit6E
  /-- `BIT 6,H`, CB 74. R195. -/
  | cbBit6H
  /-- `BIT 6,L`, CB 75. R195. -/
  | cbBit6L
  /-- `BIT 6,(HL)`, CB 76. R195. -/
  | cbBit6AtHl
  /-- `BIT 6,A`, CB 77. R195. -/
  | cbBit6A
  /-- `BIT 7,B`, CB 78. R195. -/
  | cbBit7B
  /-- `BIT 7,C`, CB 79. R195. -/
  | cbBit7C
  /-- `BIT 7,D`, CB 7A. R195. -/
  | cbBit7D
  /-- `BIT 7,E`, CB 7B. R195. -/
  | cbBit7E
  /-- `BIT 7,H`, CB 7C. R195. -/
  | cbBit7H
  /-- `BIT 7,L`, CB 7D. R195. -/
  | cbBit7L
  /-- `BIT 7,(HL)`, CB 7E. R195. -/
  | cbBit7AtHl
  /-- `BIT 7,A`, CB 7F. R195. -/
  | cbBit7A
  /-- `RES 0,B`, CB 80. R196. -/
  | cbRes0B
  /-- `RES 0,C`, CB 81. R196. -/
  | cbRes0C
  /-- `RES 0,D`, CB 82. R196. -/
  | cbRes0D
  /-- `RES 0,E`, CB 83. R196. -/
  | cbRes0E
  /-- `RES 0,H`, CB 84. R196. -/
  | cbRes0H
  /-- `RES 0,L`, CB 85. R196. -/
  | cbRes0L
  /-- `RES 0,(HL)`, CB 86. R196. -/
  | cbRes0AtHl
  /-- `RES 0,A`, CB 87. R196. -/
  | cbRes0A
  /-- `RES 1,B`, CB 88. R196. -/
  | cbRes1B
  /-- `RES 1,C`, CB 89. R196. -/
  | cbRes1C
  /-- `RES 1,D`, CB 8A. R196. -/
  | cbRes1D
  /-- `RES 1,E`, CB 8B. R196. -/
  | cbRes1E
  /-- `RES 1,H`, CB 8C. R196. -/
  | cbRes1H
  /-- `RES 1,L`, CB 8D. R196. -/
  | cbRes1L
  /-- `RES 1,(HL)`, CB 8E. R196. -/
  | cbRes1AtHl
  /-- `RES 1,A`, CB 8F. R196. -/
  | cbRes1A
  /-- `RES 2,B`, CB 90. R196. -/
  | cbRes2B
  /-- `RES 2,C`, CB 91. R196. -/
  | cbRes2C
  /-- `RES 2,D`, CB 92. R196. -/
  | cbRes2D
  /-- `RES 2,E`, CB 93. R196. -/
  | cbRes2E
  /-- `RES 2,H`, CB 94. R196. -/
  | cbRes2H
  /-- `RES 2,L`, CB 95. R196. -/
  | cbRes2L
  /-- `RES 2,(HL)`, CB 96. R196. -/
  | cbRes2AtHl
  /-- `RES 2,A`, CB 97. R196. -/
  | cbRes2A
  /-- `RES 3,B`, CB 98. R196. -/
  | cbRes3B
  /-- `RES 3,C`, CB 99. R196. -/
  | cbRes3C
  /-- `RES 3,D`, CB 9A. R196. -/
  | cbRes3D
  /-- `RES 3,E`, CB 9B. R196. -/
  | cbRes3E
  /-- `RES 3,H`, CB 9C. R196. -/
  | cbRes3H
  /-- `RES 3,L`, CB 9D. R196. -/
  | cbRes3L
  /-- `RES 3,(HL)`, CB 9E. R196. -/
  | cbRes3AtHl
  /-- `RES 3,A`, CB 9F. R196. -/
  | cbRes3A
  /-- `RES 4,B`, CB A0. R196. -/
  | cbRes4B
  /-- `RES 4,C`, CB A1. R196. -/
  | cbRes4C
  /-- `RES 4,D`, CB A2. R196. -/
  | cbRes4D
  /-- `RES 4,E`, CB A3. R196. -/
  | cbRes4E
  /-- `RES 4,H`, CB A4. R196. -/
  | cbRes4H
  /-- `RES 4,L`, CB A5. R196. -/
  | cbRes4L
  /-- `RES 4,(HL)`, CB A6. R196. -/
  | cbRes4AtHl
  /-- `RES 4,A`, CB A7. R196. -/
  | cbRes4A
  /-- `RES 5,B`, CB A8. R196. -/
  | cbRes5B
  /-- `RES 5,C`, CB A9. R196. -/
  | cbRes5C
  /-- `RES 5,D`, CB AA. R196. -/
  | cbRes5D
  /-- `RES 5,E`, CB AB. R196. -/
  | cbRes5E
  /-- `RES 5,H`, CB AC. R196. -/
  | cbRes5H
  /-- `RES 5,L`, CB AD. R196. -/
  | cbRes5L
  /-- `RES 5,(HL)`, CB AE. R196. -/
  | cbRes5AtHl
  /-- `RES 5,A`, CB AF. R196. -/
  | cbRes5A
  /-- `RES 6,B`, CB B0. R196. -/
  | cbRes6B
  /-- `RES 6,C`, CB B1. R196. -/
  | cbRes6C
  /-- `RES 6,D`, CB B2. R196. -/
  | cbRes6D
  /-- `RES 6,E`, CB B3. R196. -/
  | cbRes6E
  /-- `RES 6,H`, CB B4. R196. -/
  | cbRes6H
  /-- `RES 6,L`, CB B5. R196. -/
  | cbRes6L
  /-- `RES 6,(HL)`, CB B6. R196. -/
  | cbRes6AtHl
  /-- `RES 6,A`, CB B7. R196. -/
  | cbRes6A
  /-- `RES 7,B`, CB B8. R196. -/
  | cbRes7B
  /-- `RES 7,C`, CB B9. R196. -/
  | cbRes7C
  /-- `RES 7,D`, CB BA. R196. -/
  | cbRes7D
  /-- `RES 7,E`, CB BB. R196. -/
  | cbRes7E
  /-- `RES 7,H`, CB BC. R196. -/
  | cbRes7H
  /-- `RES 7,L`, CB BD. R196. -/
  | cbRes7L
  /-- `RES 7,(HL)`, CB BE. R196. -/
  | cbRes7AtHl
  /-- `RES 7,A`, CB BF. R196. -/
  | cbRes7A
  /-- `SET 0,B`, CB C0. R197. -/
  | cbSet0B
  /-- `SET 0,C`, CB C1. R197. -/
  | cbSet0C
  /-- `SET 0,D`, CB C2. R197. -/
  | cbSet0D
  /-- `SET 0,E`, CB C3. R197. -/
  | cbSet0E
  /-- `SET 0,H`, CB C4. R197. -/
  | cbSet0H
  /-- `SET 0,L`, CB C5. R197. -/
  | cbSet0L
  /-- `SET 0,(HL)`, CB C6. R197. -/
  | cbSet0AtHl
  /-- `SET 0,A`, CB C7. R197. -/
  | cbSet0A
  /-- `SET 1,B`, CB C8. R197. -/
  | cbSet1B
  /-- `SET 1,C`, CB C9. R197. -/
  | cbSet1C
  /-- `SET 1,D`, CB CA. R197. -/
  | cbSet1D
  /-- `SET 1,E`, CB CB. R197. -/
  | cbSet1E
  /-- `SET 1,H`, CB CC. R197. -/
  | cbSet1H
  /-- `SET 1,L`, CB CD. R197. -/
  | cbSet1L
  /-- `SET 1,(HL)`, CB CE. R197. -/
  | cbSet1AtHl
  /-- `SET 1,A`, CB CF. R197. -/
  | cbSet1A
  /-- `SET 2,B`, CB D0. R197. -/
  | cbSet2B
  /-- `SET 2,C`, CB D1. R197. -/
  | cbSet2C
  /-- `SET 2,D`, CB D2. R197. -/
  | cbSet2D
  /-- `SET 2,E`, CB D3. R197. -/
  | cbSet2E
  /-- `SET 2,H`, CB D4. R197. -/
  | cbSet2H
  /-- `SET 2,L`, CB D5. R197. -/
  | cbSet2L
  /-- `SET 2,(HL)`, CB D6. R197. -/
  | cbSet2AtHl
  /-- `SET 2,A`, CB D7. R197. -/
  | cbSet2A
  /-- `SET 3,B`, CB D8. R197. -/
  | cbSet3B
  /-- `SET 3,C`, CB D9. R197. -/
  | cbSet3C
  /-- `SET 3,D`, CB DA. R197. -/
  | cbSet3D
  /-- `SET 3,E`, CB DB. R197. -/
  | cbSet3E
  /-- `SET 3,H`, CB DC. R197. -/
  | cbSet3H
  /-- `SET 3,L`, CB DD. R197. -/
  | cbSet3L
  /-- `SET 3,(HL)`, CB DE. R197. -/
  | cbSet3AtHl
  /-- `SET 3,A`, CB DF. R197. -/
  | cbSet3A
  /-- `SET 4,B`, CB E0. R197. -/
  | cbSet4B
  /-- `SET 4,C`, CB E1. R197. -/
  | cbSet4C
  /-- `SET 4,D`, CB E2. R197. -/
  | cbSet4D
  /-- `SET 4,E`, CB E3. R197. -/
  | cbSet4E
  /-- `SET 4,H`, CB E4. R197. -/
  | cbSet4H
  /-- `SET 4,L`, CB E5. R197. -/
  | cbSet4L
  /-- `SET 4,(HL)`, CB E6. R197. -/
  | cbSet4AtHl
  /-- `SET 4,A`, CB E7. R197. -/
  | cbSet4A
  /-- `SET 5,B`, CB E8. R197. -/
  | cbSet5B
  /-- `SET 5,C`, CB E9. R197. -/
  | cbSet5C
  /-- `SET 5,D`, CB EA. R197. -/
  | cbSet5D
  /-- `SET 5,E`, CB EB. R197. -/
  | cbSet5E
  /-- `SET 5,H`, CB EC. R197. -/
  | cbSet5H
  /-- `SET 5,L`, CB ED. R197. -/
  | cbSet5L
  /-- `SET 5,(HL)`, CB EE. R197. -/
  | cbSet5AtHl
  /-- `SET 5,A`, CB EF. R197. -/
  | cbSet5A
  /-- `SET 6,B`, CB F0. R197. -/
  | cbSet6B
  /-- `SET 6,C`, CB F1. R197. -/
  | cbSet6C
  /-- `SET 6,D`, CB F2. R197. -/
  | cbSet6D
  /-- `SET 6,E`, CB F3. R197. -/
  | cbSet6E
  /-- `SET 6,H`, CB F4. R197. -/
  | cbSet6H
  /-- `SET 6,L`, CB F5. R197. -/
  | cbSet6L
  /-- `SET 6,(HL)`, CB F6. R197. -/
  | cbSet6AtHl
  /-- `SET 6,A`, CB F7. R197. -/
  | cbSet6A
  /-- `SET 7,B`, CB F8. R197. -/
  | cbSet7B
  /-- `SET 7,C`, CB F9. R197. -/
  | cbSet7C
  /-- `SET 7,D`, CB FA. R197. -/
  | cbSet7D
  /-- `SET 7,E`, CB FB. R197. -/
  | cbSet7E
  /-- `SET 7,H`, CB FC. R197. -/
  | cbSet7H
  /-- `SET 7,L`, CB FD. R197. -/
  | cbSet7L
  /-- `SET 7,(HL)`, CB FE. R197. -/
  | cbSet7AtHl
  /-- `SET 7,A`, CB FF. R197. -/
  | cbSet7A
  deriving DecidableEq, Repr

end Sys2Proof
end

