-- ==== Sys2Proof/WellFormed.lean ====
section
/-! DEFINITION. Which terms of `Instr` are instructions of the machine. Operand bytes and words have exactly the widths of their
encodings, so every value of them is admitted; the one check is on the prefix row. -/

namespace Sys2Proof

/-- "The byte 0xCB is not an instruction by itself. It is a prefix" (30_encoding.md R115): the table's row PREFIX_CB is no
instruction; its words are those of the 256 extended rows. Every other constructor is an instruction or an illegal byte, whatever
its operands (R114, R119). -/
def Instr.wellFormed (i : Instr) : Bool :=
  match i with
  | .prefixCb _ => false
  | _ => true

end Sys2Proof
end

