-- ==== Sys2Proof/Decode.lean ====
section
/-! DEFINITION. The decoder, total on any bytes (30_encoding.md R100 to R117), and after it the encoder, written from the opcode
table. The decoder works by the fields x, y, z, p, q of the opcode byte (R101); the encoder gives each row the byte the table gives
it. The byte-order and sign-extension helpers both use stand first. -/

namespace Sys2Proof

/-! ## Bytes and words -/

/-- Bits 15..8 of a word. -/
def hiByte (w : Word) : Byte := w.extractLsb' 8 8

/-- Bits 7..0 of a word. -/
def loByte (w : Word) : Byte := w.extractLsb' 0 8

/-- `{hi, lo}` (R12): the first-named byte is the high one. -/
def wordOf (hi lo : Byte) : Word := hi ++ lo

/-- `sext_16` (R12): bit 7 copied into bits 15..8. -/
def sext16 (v : Byte) : Word := v.signExtend 16

/-! ## The rows of a family, by operand field

Each function names the rows of one shape by their operands, as the maps of R110 and R111 lay them out. -/

/-- `LD r,r'` (R120). -/
def Instr.ldReg (dst : Reg8) (src : Reg8) : Instr :=
  match dst, src with
  | .b, .b => .ldBB
  | .b, .c => .ldBC
  | .b, .d => .ldBD
  | .b, .e => .ldBE
  | .b, .h => .ldBH
  | .b, .l => .ldBL
  | .b, .a => .ldBA
  | .c, .b => .ldCB
  | .c, .c => .ldCC
  | .c, .d => .ldCD
  | .c, .e => .ldCE
  | .c, .h => .ldCH
  | .c, .l => .ldCL
  | .c, .a => .ldCA
  | .d, .b => .ldDB
  | .d, .c => .ldDC
  | .d, .d => .ldDD
  | .d, .e => .ldDE
  | .d, .h => .ldDH
  | .d, .l => .ldDL
  | .d, .a => .ldDA
  | .e, .b => .ldEB
  | .e, .c => .ldEC
  | .e, .d => .ldED
  | .e, .e => .ldEE
  | .e, .h => .ldEH
  | .e, .l => .ldEL
  | .e, .a => .ldEA
  | .h, .b => .ldHB
  | .h, .c => .ldHC
  | .h, .d => .ldHD
  | .h, .e => .ldHE
  | .h, .h => .ldHH
  | .h, .l => .ldHL
  | .h, .a => .ldHA
  | .l, .b => .ldLB
  | .l, .c => .ldLC
  | .l, .d => .ldLD
  | .l, .e => .ldLE
  | .l, .h => .ldLH
  | .l, .l => .ldLL
  | .l, .a => .ldLA
  | .a, .b => .ldAB
  | .a, .c => .ldAC
  | .a, .d => .ldAD
  | .a, .e => .ldAE
  | .a, .h => .ldAH
  | .a, .l => .ldAL
  | .a, .a => .ldAA

/-- `LD r,n` (R121). -/
def Instr.ldImm (dst : Reg8) (n : Byte) : Instr :=
  match dst with
  | .b => .ldBN n
  | .c => .ldCN n
  | .d => .ldDN n
  | .e => .ldEN n
  | .h => .ldHN n
  | .l => .ldLN n
  | .a => .ldAN n

/-- `LD r,(HL)` (R122). -/
def Instr.ldRegAtHl (dst : Reg8) : Instr :=
  match dst with
  | .b => .ldBAtHl
  | .c => .ldCAtHl
  | .d => .ldDAtHl
  | .e => .ldEAtHl
  | .h => .ldHAtHl
  | .l => .ldLAtHl
  | .a => .ldAAtHl

/-- `LD (HL),r` (R123). -/
def Instr.ldAtHlReg (src : Reg8) : Instr :=
  match src with
  | .b => .ldAtHlB
  | .c => .ldAtHlC
  | .d => .ldAtHlD
  | .e => .ldAtHlE
  | .h => .ldAtHlH
  | .l => .ldAtHlL
  | .a => .ldAtHlA

/-- The register and memory forms of the eight ALU operations (R150). -/
def Instr.alu (op : AluOp) (src : Operand8) : Instr :=
  match op, src with
  | .add, .reg .b => .addAB
  | .add, .reg .c => .addAC
  | .add, .reg .d => .addAD
  | .add, .reg .e => .addAE
  | .add, .reg .h => .addAH
  | .add, .reg .l => .addAL
  | .add, .atHl => .addAAtHl
  | .add, .reg .a => .addAA
  | .adc, .reg .b => .adcAB
  | .adc, .reg .c => .adcAC
  | .adc, .reg .d => .adcAD
  | .adc, .reg .e => .adcAE
  | .adc, .reg .h => .adcAH
  | .adc, .reg .l => .adcAL
  | .adc, .atHl => .adcAAtHl
  | .adc, .reg .a => .adcAA
  | .sub, .reg .b => .subB
  | .sub, .reg .c => .subC
  | .sub, .reg .d => .subD
  | .sub, .reg .e => .subE
  | .sub, .reg .h => .subH
  | .sub, .reg .l => .subL
  | .sub, .atHl => .subAtHl
  | .sub, .reg .a => .subA
  | .sbc, .reg .b => .sbcAB
  | .sbc, .reg .c => .sbcAC
  | .sbc, .reg .d => .sbcAD
  | .sbc, .reg .e => .sbcAE
  | .sbc, .reg .h => .sbcAH
  | .sbc, .reg .l => .sbcAL
  | .sbc, .atHl => .sbcAAtHl
  | .sbc, .reg .a => .sbcAA
  | .and, .reg .b => .andB
  | .and, .reg .c => .andC
  | .and, .reg .d => .andD
  | .and, .reg .e => .andE
  | .and, .reg .h => .andH
  | .and, .reg .l => .andL
  | .and, .atHl => .andAtHl
  | .and, .reg .a => .andA
  | .xor, .reg .b => .xorB
  | .xor, .reg .c => .xorC
  | .xor, .reg .d => .xorD
  | .xor, .reg .e => .xorE
  | .xor, .reg .h => .xorH
  | .xor, .reg .l => .xorL
  | .xor, .atHl => .xorAtHl
  | .xor, .reg .a => .xorA
  | .or, .reg .b => .orB
  | .or, .reg .c => .orC
  | .or, .reg .d => .orD
  | .or, .reg .e => .orE
  | .or, .reg .h => .orH
  | .or, .reg .l => .orL
  | .or, .atHl => .orAtHl
  | .or, .reg .a => .orA
  | .cp, .reg .b => .cpB
  | .cp, .reg .c => .cpC
  | .cp, .reg .d => .cpD
  | .cp, .reg .e => .cpE
  | .cp, .reg .h => .cpH
  | .cp, .reg .l => .cpL
  | .cp, .atHl => .cpAtHl
  | .cp, .reg .a => .cpA

/-- The immediate forms of the eight ALU operations (R150). -/
def Instr.aluImm (op : AluOp) (n : Byte) : Instr :=
  match op with
  | .add => .addAN n
  | .adc => .adcAN n
  | .sub => .subN n
  | .sbc => .sbcAN n
  | .and => .andN n
  | .xor => .xorN n
  | .or => .orN n
  | .cp => .cpN n

/-- `INC r` and `INC (HL)` (R159, R162). -/
def Instr.inc8 (o : Operand8) : Instr :=
  match o with
  | .reg .b => .incB
  | .reg .c => .incC
  | .reg .d => .incD
  | .reg .e => .incE
  | .reg .h => .incH
  | .reg .l => .incL
  | .atHl => .incAtHl
  | .reg .a => .incA

/-- `DEC r` and `DEC (HL)` (R160, R163). -/
def Instr.dec8 (o : Operand8) : Instr :=
  match o with
  | .reg .b => .decB
  | .reg .c => .decC
  | .reg .d => .decD
  | .reg .e => .decE
  | .reg .h => .decH
  | .reg .l => .decL
  | .atHl => .decAtHl
  | .reg .a => .decA

/-- `LD rr,nn` (R140). -/
def Instr.ldPair (rr : Pair) (nn : Word) : Instr :=
  match rr with
  | .bc => .ldBcNn nn
  | .de => .ldDeNn nn
  | .hl => .ldHlNn nn
  | .sp => .ldSpNn nn

/-- `INC rr` (R170). -/
def Instr.incPair (rr : Pair) : Instr :=
  match rr with
  | .bc => .incBc
  | .de => .incDe
  | .hl => .incHl
  | .sp => .incSp

/-- `DEC rr` (R171). -/
def Instr.decPair (rr : Pair) : Instr :=
  match rr with
  | .bc => .decBc
  | .de => .decDe
  | .hl => .decHl
  | .sp => .decSp

/-- `ADD HL,rr` (R172). -/
def Instr.addHl (rr : Pair) : Instr :=
  match rr with
  | .bc => .addHlBc
  | .de => .addHlDe
  | .hl => .addHlHl
  | .sp => .addHlSp

/-- `PUSH rr` (R143). -/
def Instr.push (rr : StackPair) : Instr :=
  match rr with
  | .bc => .pushBc
  | .de => .pushDe
  | .hl => .pushHl
  | .af => .pushAf

/-- `POP rr` and `POP AF` (R144, R145). -/
def Instr.pop (rr : StackPair) : Instr :=
  match rr with
  | .bc => .popBc
  | .de => .popDe
  | .hl => .popHl
  | .af => .popAf

/-- `JP cc,nn` (R202). -/
def Instr.jpCond (cc : Cond) (nn : Word) : Instr :=
  match cc with
  | .nz => .jpNzNn nn
  | .z => .jpZNn nn
  | .nc => .jpNcNn nn
  | .c => .jpCyNn nn

/-- `JR cc,e` (R205). -/
def Instr.jrCond (cc : Cond) (e : Byte) : Instr :=
  match cc with
  | .nz => .jrNzDisp e
  | .z => .jrZDisp e
  | .nc => .jrNcDisp e
  | .c => .jrCyDisp e

/-- `CALL cc,nn` (R207). -/
def Instr.callCond (cc : Cond) (nn : Word) : Instr :=
  match cc with
  | .nz => .callNzNn nn
  | .z => .callZNn nn
  | .nc => .callNcNn nn
  | .c => .callCyNn nn

/-- `RET cc` (R209). -/
def Instr.retCond (cc : Cond) : Instr :=
  match cc with
  | .nz => .retNz
  | .z => .retZ
  | .nc => .retNc
  | .c => .retCy

/-- `RST t` with `t = y × 8` (R107, R210). -/
def Instr.rst (y : Fin 8) : Instr :=
  match y with
  | 0 => .rst00
  | 1 => .rst08
  | 2 => .rst10
  | 3 => .rst18
  | 4 => .rst20
  | 5 => .rst28
  | 6 => .rst30
  | 7 => .rst38

/-- The rotates and shifts after 0xCB (R184 to R191). -/
def Instr.cbShift (op : ShiftOp) (o : Operand8) : Instr :=
  match op, o with
  | .rlc, .reg .b => .cbRlcB
  | .rlc, .reg .c => .cbRlcC
  | .rlc, .reg .d => .cbRlcD
  | .rlc, .reg .e => .cbRlcE
  | .rlc, .reg .h => .cbRlcH
  | .rlc, .reg .l => .cbRlcL
  | .rlc, .atHl => .cbRlcAtHl
  | .rlc, .reg .a => .cbRlcA
  | .rrc, .reg .b => .cbRrcB
  | .rrc, .reg .c => .cbRrcC
  | .rrc, .reg .d => .cbRrcD
  | .rrc, .reg .e => .cbRrcE
  | .rrc, .reg .h => .cbRrcH
  | .rrc, .reg .l => .cbRrcL
  | .rrc, .atHl => .cbRrcAtHl
  | .rrc, .reg .a => .cbRrcA
  | .rl, .reg .b => .cbRlB
  | .rl, .reg .c => .cbRlC
  | .rl, .reg .d => .cbRlD
  | .rl, .reg .e => .cbRlE
  | .rl, .reg .h => .cbRlH
  | .rl, .reg .l => .cbRlL
  | .rl, .atHl => .cbRlAtHl
  | .rl, .reg .a => .cbRlA
  | .rr, .reg .b => .cbRrB
  | .rr, .reg .c => .cbRrC
  | .rr, .reg .d => .cbRrD
  | .rr, .reg .e => .cbRrE
  | .rr, .reg .h => .cbRrH
  | .rr, .reg .l => .cbRrL
  | .rr, .atHl => .cbRrAtHl
  | .rr, .reg .a => .cbRrA
  | .sla, .reg .b => .cbSlaB
  | .sla, .reg .c => .cbSlaC
  | .sla, .reg .d => .cbSlaD
  | .sla, .reg .e => .cbSlaE
  | .sla, .reg .h => .cbSlaH
  | .sla, .reg .l => .cbSlaL
  | .sla, .atHl => .cbSlaAtHl
  | .sla, .reg .a => .cbSlaA
  | .sra, .reg .b => .cbSraB
  | .sra, .reg .c => .cbSraC
  | .sra, .reg .d => .cbSraD
  | .sra, .reg .e => .cbSraE
  | .sra, .reg .h => .cbSraH
  | .sra, .reg .l => .cbSraL
  | .sra, .atHl => .cbSraAtHl
  | .sra, .reg .a => .cbSraA
  | .swap, .reg .b => .cbSwapB
  | .swap, .reg .c => .cbSwapC
  | .swap, .reg .d => .cbSwapD
  | .swap, .reg .e => .cbSwapE
  | .swap, .reg .h => .cbSwapH
  | .swap, .reg .l => .cbSwapL
  | .swap, .atHl => .cbSwapAtHl
  | .swap, .reg .a => .cbSwapA
  | .srl, .reg .b => .cbSrlB
  | .srl, .reg .c => .cbSrlC
  | .srl, .reg .d => .cbSrlD
  | .srl, .reg .e => .cbSrlE
  | .srl, .reg .h => .cbSrlH
  | .srl, .reg .l => .cbSrlL
  | .srl, .atHl => .cbSrlAtHl
  | .srl, .reg .a => .cbSrlA

/-- `BIT b,r` and `BIT b,(HL)` (R195). -/
def Instr.cbBit (b : Fin 8) (o : Operand8) : Instr :=
  match b, o with
  | 0, .reg .b => .cbBit0B
  | 0, .reg .c => .cbBit0C
  | 0, .reg .d => .cbBit0D
  | 0, .reg .e => .cbBit0E
  | 0, .reg .h => .cbBit0H
  | 0, .reg .l => .cbBit0L
  | 0, .atHl => .cbBit0AtHl
  | 0, .reg .a => .cbBit0A
  | 1, .reg .b => .cbBit1B
  | 1, .reg .c => .cbBit1C
  | 1, .reg .d => .cbBit1D
  | 1, .reg .e => .cbBit1E
  | 1, .reg .h => .cbBit1H
  | 1, .reg .l => .cbBit1L
  | 1, .atHl => .cbBit1AtHl
  | 1, .reg .a => .cbBit1A
  | 2, .reg .b => .cbBit2B
  | 2, .reg .c => .cbBit2C
  | 2, .reg .d => .cbBit2D
  | 2, .reg .e => .cbBit2E
  | 2, .reg .h => .cbBit2H
  | 2, .reg .l => .cbBit2L
  | 2, .atHl => .cbBit2AtHl
  | 2, .reg .a => .cbBit2A
  | 3, .reg .b => .cbBit3B
  | 3, .reg .c => .cbBit3C
  | 3, .reg .d => .cbBit3D
  | 3, .reg .e => .cbBit3E
  | 3, .reg .h => .cbBit3H
  | 3, .reg .l => .cbBit3L
  | 3, .atHl => .cbBit3AtHl
  | 3, .reg .a => .cbBit3A
  | 4, .reg .b => .cbBit4B
  | 4, .reg .c => .cbBit4C
  | 4, .reg .d => .cbBit4D
  | 4, .reg .e => .cbBit4E
  | 4, .reg .h => .cbBit4H
  | 4, .reg .l => .cbBit4L
  | 4, .atHl => .cbBit4AtHl
  | 4, .reg .a => .cbBit4A
  | 5, .reg .b => .cbBit5B
  | 5, .reg .c => .cbBit5C
  | 5, .reg .d => .cbBit5D
  | 5, .reg .e => .cbBit5E
  | 5, .reg .h => .cbBit5H
  | 5, .reg .l => .cbBit5L
  | 5, .atHl => .cbBit5AtHl
  | 5, .reg .a => .cbBit5A
  | 6, .reg .b => .cbBit6B
  | 6, .reg .c => .cbBit6C
  | 6, .reg .d => .cbBit6D
  | 6, .reg .e => .cbBit6E
  | 6, .reg .h => .cbBit6H
  | 6, .reg .l => .cbBit6L
  | 6, .atHl => .cbBit6AtHl
  | 6, .reg .a => .cbBit6A
  | 7, .reg .b => .cbBit7B
  | 7, .reg .c => .cbBit7C
  | 7, .reg .d => .cbBit7D
  | 7, .reg .e => .cbBit7E
  | 7, .reg .h => .cbBit7H
  | 7, .reg .l => .cbBit7L
  | 7, .atHl => .cbBit7AtHl
  | 7, .reg .a => .cbBit7A

/-- `RES b,r` and `RES b,(HL)` (R196). -/
def Instr.cbRes (b : Fin 8) (o : Operand8) : Instr :=
  match b, o with
  | 0, .reg .b => .cbRes0B
  | 0, .reg .c => .cbRes0C
  | 0, .reg .d => .cbRes0D
  | 0, .reg .e => .cbRes0E
  | 0, .reg .h => .cbRes0H
  | 0, .reg .l => .cbRes0L
  | 0, .atHl => .cbRes0AtHl
  | 0, .reg .a => .cbRes0A
  | 1, .reg .b => .cbRes1B
  | 1, .reg .c => .cbRes1C
  | 1, .reg .d => .cbRes1D
  | 1, .reg .e => .cbRes1E
  | 1, .reg .h => .cbRes1H
  | 1, .reg .l => .cbRes1L
  | 1, .atHl => .cbRes1AtHl
  | 1, .reg .a => .cbRes1A
  | 2, .reg .b => .cbRes2B
  | 2, .reg .c => .cbRes2C
  | 2, .reg .d => .cbRes2D
  | 2, .reg .e => .cbRes2E
  | 2, .reg .h => .cbRes2H
  | 2, .reg .l => .cbRes2L
  | 2, .atHl => .cbRes2AtHl
  | 2, .reg .a => .cbRes2A
  | 3, .reg .b => .cbRes3B
  | 3, .reg .c => .cbRes3C
  | 3, .reg .d => .cbRes3D
  | 3, .reg .e => .cbRes3E
  | 3, .reg .h => .cbRes3H
  | 3, .reg .l => .cbRes3L
  | 3, .atHl => .cbRes3AtHl
  | 3, .reg .a => .cbRes3A
  | 4, .reg .b => .cbRes4B
  | 4, .reg .c => .cbRes4C
  | 4, .reg .d => .cbRes4D
  | 4, .reg .e => .cbRes4E
  | 4, .reg .h => .cbRes4H
  | 4, .reg .l => .cbRes4L
  | 4, .atHl => .cbRes4AtHl
  | 4, .reg .a => .cbRes4A
  | 5, .reg .b => .cbRes5B
  | 5, .reg .c => .cbRes5C
  | 5, .reg .d => .cbRes5D
  | 5, .reg .e => .cbRes5E
  | 5, .reg .h => .cbRes5H
  | 5, .reg .l => .cbRes5L
  | 5, .atHl => .cbRes5AtHl
  | 5, .reg .a => .cbRes5A
  | 6, .reg .b => .cbRes6B
  | 6, .reg .c => .cbRes6C
  | 6, .reg .d => .cbRes6D
  | 6, .reg .e => .cbRes6E
  | 6, .reg .h => .cbRes6H
  | 6, .reg .l => .cbRes6L
  | 6, .atHl => .cbRes6AtHl
  | 6, .reg .a => .cbRes6A
  | 7, .reg .b => .cbRes7B
  | 7, .reg .c => .cbRes7C
  | 7, .reg .d => .cbRes7D
  | 7, .reg .e => .cbRes7E
  | 7, .reg .h => .cbRes7H
  | 7, .reg .l => .cbRes7L
  | 7, .atHl => .cbRes7AtHl
  | 7, .reg .a => .cbRes7A

/-- `SET b,r` and `SET b,(HL)` (R197). -/
def Instr.cbSet (b : Fin 8) (o : Operand8) : Instr :=
  match b, o with
  | 0, .reg .b => .cbSet0B
  | 0, .reg .c => .cbSet0C
  | 0, .reg .d => .cbSet0D
  | 0, .reg .e => .cbSet0E
  | 0, .reg .h => .cbSet0H
  | 0, .reg .l => .cbSet0L
  | 0, .atHl => .cbSet0AtHl
  | 0, .reg .a => .cbSet0A
  | 1, .reg .b => .cbSet1B
  | 1, .reg .c => .cbSet1C
  | 1, .reg .d => .cbSet1D
  | 1, .reg .e => .cbSet1E
  | 1, .reg .h => .cbSet1H
  | 1, .reg .l => .cbSet1L
  | 1, .atHl => .cbSet1AtHl
  | 1, .reg .a => .cbSet1A
  | 2, .reg .b => .cbSet2B
  | 2, .reg .c => .cbSet2C
  | 2, .reg .d => .cbSet2D
  | 2, .reg .e => .cbSet2E
  | 2, .reg .h => .cbSet2H
  | 2, .reg .l => .cbSet2L
  | 2, .atHl => .cbSet2AtHl
  | 2, .reg .a => .cbSet2A
  | 3, .reg .b => .cbSet3B
  | 3, .reg .c => .cbSet3C
  | 3, .reg .d => .cbSet3D
  | 3, .reg .e => .cbSet3E
  | 3, .reg .h => .cbSet3H
  | 3, .reg .l => .cbSet3L
  | 3, .atHl => .cbSet3AtHl
  | 3, .reg .a => .cbSet3A
  | 4, .reg .b => .cbSet4B
  | 4, .reg .c => .cbSet4C
  | 4, .reg .d => .cbSet4D
  | 4, .reg .e => .cbSet4E
  | 4, .reg .h => .cbSet4H
  | 4, .reg .l => .cbSet4L
  | 4, .atHl => .cbSet4AtHl
  | 4, .reg .a => .cbSet4A
  | 5, .reg .b => .cbSet5B
  | 5, .reg .c => .cbSet5C
  | 5, .reg .d => .cbSet5D
  | 5, .reg .e => .cbSet5E
  | 5, .reg .h => .cbSet5H
  | 5, .reg .l => .cbSet5L
  | 5, .atHl => .cbSet5AtHl
  | 5, .reg .a => .cbSet5A
  | 6, .reg .b => .cbSet6B
  | 6, .reg .c => .cbSet6C
  | 6, .reg .d => .cbSet6D
  | 6, .reg .e => .cbSet6E
  | 6, .reg .h => .cbSet6H
  | 6, .reg .l => .cbSet6L
  | 6, .atHl => .cbSet6AtHl
  | 6, .reg .a => .cbSet6A
  | 7, .reg .b => .cbSet7B
  | 7, .reg .c => .cbSet7C
  | 7, .reg .d => .cbSet7D
  | 7, .reg .e => .cbSet7E
  | 7, .reg .h => .cbSet7H
  | 7, .reg .l => .cbSet7L
  | 7, .atHl => .cbSet7AtHl
  | 7, .reg .a => .cbSet7A

/-- The block `x = 1`: loads, but for 0x76, which is HALT (R116). -/
def Instr.ldBlock (dst src : Operand8) : Instr :=
  match dst, src with
  | .reg r, .reg r' => Instr.ldReg r r'
  | .reg r, .atHl => Instr.ldRegAtHl r
  | .atHl, .reg r => Instr.ldAtHlReg r
  | .atHl, .atHl => .halt

/-! ## Fields of the opcode byte (R101) -/

/-- `x = b7:6`. -/
def fieldX (op : Byte) : Fin 4 := (op.extractLsb' 6 2).toFin

/-- `y = b5:3`. -/
def fieldY (op : Byte) : Fin 8 := (op.extractLsb' 3 3).toFin

/-- `z = b2:0`. -/
def fieldZ (op : Byte) : Fin 8 := (op.extractLsb' 0 3).toFin

/-- R102. -/
def Operand8.ofCode (k : Fin 8) : Operand8 :=
  match k with
  | 0 => .reg .b
  | 1 => .reg .c
  | 2 => .reg .d
  | 3 => .reg .e
  | 4 => .reg .h
  | 5 => .reg .l
  | 6 => .atHl
  | 7 => .reg .a

/-- R105. -/
def AluOp.ofCode (k : Fin 8) : AluOp :=
  match k with
  | 0 => .add
  | 1 => .adc
  | 2 => .sub
  | 3 => .sbc
  | 4 => .and
  | 5 => .xor
  | 6 => .or
  | 7 => .cp

/-- R106. -/
def ShiftOp.ofCode (k : Fin 8) : ShiftOp :=
  match k with
  | 0 => .rlc
  | 1 => .rrc
  | 2 => .rl
  | 3 => .rr
  | 4 => .sla
  | 5 => .sra
  | 6 => .swap
  | 7 => .srl

/-! ## The decoder -/

/-- What an opcode byte asks for (R101): nothing more, one byte, or a little-endian word. The prefix asks for one byte, the extended
opcode (R115). STOP asks for nothing: its second byte is not fetched (R114, R217). -/
inductive Format where
  | f1 (i : Instr)
  | f2 (make : Byte → Instr)
  | f3 (make : Word → Instr)

/-- The number of bytes fetched under a format, the opcode byte included (R100). -/
def Format.fetched (f : Format) : Nat :=
  match f with
  | .f1 _ => 1
  | .f2 _ => 2
  | .f3 _ => 3

/-- The extended map: the row of the byte after 0xCB (R106, R111). -/
def decodeExt (op2 : Byte) : Instr :=
  match fieldX op2 with
  | 0 => Instr.cbShift (ShiftOp.ofCode (fieldY op2)) (Operand8.ofCode (fieldZ op2))
  | 1 => Instr.cbBit (fieldY op2) (Operand8.ofCode (fieldZ op2))
  | 2 => Instr.cbRes (fieldY op2) (Operand8.ofCode (fieldZ op2))
  | 3 => Instr.cbSet (fieldY op2) (Operand8.ofCode (fieldZ op2))

/-- The quarter `x = 0` of the base map (R110). -/
def decodeX0 (y z : Fin 8) : Format :=
  match z with
  | 0 =>
    match y with
    | 0 => .f1 .nop
    | 1 => .f3 .ldAtNnSp
    | 2 => .f1 .stop
    | 3 => .f2 .jrDisp
    | 4 => .f2 (Instr.jrCond .nz)
    | 5 => .f2 (Instr.jrCond .z)
    | 6 => .f2 (Instr.jrCond .nc)
    | 7 => .f2 (Instr.jrCond .c)
  | 1 =>
    match y with
    | 0 => .f3 (Instr.ldPair .bc)
    | 1 => .f1 (Instr.addHl .bc)
    | 2 => .f3 (Instr.ldPair .de)
    | 3 => .f1 (Instr.addHl .de)
    | 4 => .f3 (Instr.ldPair .hl)
    | 5 => .f1 (Instr.addHl .hl)
    | 6 => .f3 (Instr.ldPair .sp)
    | 7 => .f1 (Instr.addHl .sp)
  | 2 =>
    match y with
    | 0 => .f1 .ldAtBcA
    | 1 => .f1 .ldAAtBc
    | 2 => .f1 .ldAtDeA
    | 3 => .f1 .ldAAtDe
    | 4 => .f1 .ldAtHlIncA
    | 5 => .f1 .ldAAtHlInc
    | 6 => .f1 .ldAtHlDecA
    | 7 => .f1 .ldAAtHlDec
  | 3 =>
    match y with
    | 0 => .f1 (Instr.incPair .bc)
    | 1 => .f1 (Instr.decPair .bc)
    | 2 => .f1 (Instr.incPair .de)
    | 3 => .f1 (Instr.decPair .de)
    | 4 => .f1 (Instr.incPair .hl)
    | 5 => .f1 (Instr.decPair .hl)
    | 6 => .f1 (Instr.incPair .sp)
    | 7 => .f1 (Instr.decPair .sp)
  | 4 => .f1 (Instr.inc8 (Operand8.ofCode y))
  | 5 => .f1 (Instr.dec8 (Operand8.ofCode y))
  | 6 =>
    match Operand8.ofCode y with
    | .reg r => .f2 (Instr.ldImm r)
    | .atHl => .f2 .ldAtHlN
  | 7 =>
    match y with
    | 0 => .f1 .rlca
    | 1 => .f1 .rrca
    | 2 => .f1 .rla
    | 3 => .f1 .rra
    | 4 => .f1 .daa
    | 5 => .f1 .cplA
    | 6 => .f1 .scf
    | 7 => .f1 .ccf

/-- The quarter `x = 3` of the base map (R110), the 11 illegal bytes (R113) and the prefix (R115) among it. -/
def decodeX3 (y z : Fin 8) : Format :=
  match z with
  | 0 =>
    match y with
    | 0 => .f1 (Instr.retCond .nz)
    | 1 => .f1 (Instr.retCond .z)
    | 2 => .f1 (Instr.retCond .nc)
    | 3 => .f1 (Instr.retCond .c)
    | 4 => .f2 .ldhAtNA
    | 5 => .f2 .addSpDisp
    | 6 => .f2 .ldhAAtN
    | 7 => .f2 .ldHlSpDisp
  | 1 =>
    match y with
    | 0 => .f1 (Instr.pop .bc)
    | 1 => .f1 .ret
    | 2 => .f1 (Instr.pop .de)
    | 3 => .f1 .reti
    | 4 => .f1 (Instr.pop .hl)
    | 5 => .f1 .jpHl
    | 6 => .f1 (Instr.pop .af)
    | 7 => .f1 .ldSpHl
  | 2 =>
    match y with
    | 0 => .f3 (Instr.jpCond .nz)
    | 1 => .f3 (Instr.jpCond .z)
    | 2 => .f3 (Instr.jpCond .nc)
    | 3 => .f3 (Instr.jpCond .c)
    | 4 => .f1 .ldAtCA
    | 5 => .f3 .ldAtNnA
    | 6 => .f1 .ldAAtC
    | 7 => .f3 .ldAAtNn
  | 3 =>
    match y with
    | 0 => .f3 .jpNn
    | 1 => .f2 decodeExt
    | 2 => .f1 .illegalD3
    | 3 => .f1 .illegalDB
    | 4 => .f1 .illegalE3
    | 5 => .f1 .illegalEB
    | 6 => .f1 .di
    | 7 => .f1 .ei
  | 4 =>
    match y with
    | 0 => .f3 (Instr.callCond .nz)
    | 1 => .f3 (Instr.callCond .z)
    | 2 => .f3 (Instr.callCond .nc)
    | 3 => .f3 (Instr.callCond .c)
    | 4 => .f1 .illegalE4
    | 5 => .f1 .illegalEC
    | 6 => .f1 .illegalF4
    | 7 => .f1 .illegalFC
  | 5 =>
    match y with
    | 0 => .f1 (Instr.push .bc)
    | 1 => .f3 .callNn
    | 2 => .f1 (Instr.push .de)
    | 3 => .f1 .illegalDD
    | 4 => .f1 (Instr.push .hl)
    | 5 => .f1 .illegalED
    | 6 => .f1 (Instr.push .af)
    | 7 => .f1 .illegalFD
  | 6 => .f2 (Instr.aluImm (AluOp.ofCode y))
  | 7 => .f1 (Instr.rst y)

/-- The base map by fields (R110, R112): a pure function of the opcode byte. -/
def decodeOpcode (op : Byte) : Format :=
  match fieldX op with
  | 0 => decodeX0 (fieldY op) (fieldZ op)
  | 1 => .f1 (Instr.ldBlock (Operand8.ofCode (fieldY op)) (Operand8.ofCode (fieldZ op)))
  | 2 => .f1 (Instr.alu (AluOp.ofCode (fieldY op)) (Operand8.ofCode (fieldZ op)))
  | 3 => decodeX3 (fieldY op) (fieldZ op)

/-- Why a list of bytes holds no instruction at its head. -/
inductive DecodeError where
  /-- The list is empty. -/
  | noBytes
  /-- The list ends before the operand bytes of this opcode. -/
  | missingOperand (op : Byte)
  deriving DecidableEq, Repr

/-- The instruction at the head of a list of bytes; what follows it is not looked at. -/
def decode (bytes : List Byte) : Except DecodeError Instr :=
  match bytes with
  | [] => .error .noBytes
  | op :: rest =>
    match decodeOpcode op, rest with
    | .f1 i, _ => .ok i
    | .f2 make, n :: _ => .ok (make n)
    | .f2 _, [] => .error (.missingOperand op)
    | .f3 make, lo :: hi :: _ => .ok (make (wordOf hi lo))
    | .f3 _, _ => .error (.missingOperand op)

/-! ## The encoder -/

/-- The bytes of an instruction, as spec/opcode_table.json encodes its row: an immediate follows its opcode, the low byte of `nn`
first (R108, R85). STOP carries its conventional second byte 0x00 (format F2s, R101). -/
def encode (i : Instr) : List Byte :=
  match i with
  | .nop => [0x00#8]
  | .ldBcNn nn => [0x01#8, loByte nn, hiByte nn]
  | .ldAtBcA => [0x02#8]
  | .incBc => [0x03#8]
  | .incB => [0x04#8]
  | .decB => [0x05#8]
  | .ldBN n => [0x06#8, n]
  | .rlca => [0x07#8]
  | .ldAtNnSp nn => [0x08#8, loByte nn, hiByte nn]
  | .addHlBc => [0x09#8]
  | .ldAAtBc => [0x0A#8]
  | .decBc => [0x0B#8]
  | .incC => [0x0C#8]
  | .decC => [0x0D#8]
  | .ldCN n => [0x0E#8, n]
  | .rrca => [0x0F#8]
  | .stop => [0x10#8, 0x00#8]
  | .ldDeNn nn => [0x11#8, loByte nn, hiByte nn]
  | .ldAtDeA => [0x12#8]
  | .incDe => [0x13#8]
  | .incD => [0x14#8]
  | .decD => [0x15#8]
  | .ldDN n => [0x16#8, n]
  | .rla => [0x17#8]
  | .jrDisp e => [0x18#8, e]
  | .addHlDe => [0x19#8]
  | .ldAAtDe => [0x1A#8]
  | .decDe => [0x1B#8]
  | .incE => [0x1C#8]
  | .decE => [0x1D#8]
  | .ldEN n => [0x1E#8, n]
  | .rra => [0x1F#8]
  | .jrNzDisp e => [0x20#8, e]
  | .ldHlNn nn => [0x21#8, loByte nn, hiByte nn]
  | .ldAtHlIncA => [0x22#8]
  | .incHl => [0x23#8]
  | .incH => [0x24#8]
  | .decH => [0x25#8]
  | .ldHN n => [0x26#8, n]
  | .daa => [0x27#8]
  | .jrZDisp e => [0x28#8, e]
  | .addHlHl => [0x29#8]
  | .ldAAtHlInc => [0x2A#8]
  | .decHl => [0x2B#8]
  | .incL => [0x2C#8]
  | .decL => [0x2D#8]
  | .ldLN n => [0x2E#8, n]
  | .cplA => [0x2F#8]
  | .jrNcDisp e => [0x30#8, e]
  | .ldSpNn nn => [0x31#8, loByte nn, hiByte nn]
  | .ldAtHlDecA => [0x32#8]
  | .incSp => [0x33#8]
  | .incAtHl => [0x34#8]
  | .decAtHl => [0x35#8]
  | .ldAtHlN n => [0x36#8, n]
  | .scf => [0x37#8]
  | .jrCyDisp e => [0x38#8, e]
  | .addHlSp => [0x39#8]
  | .ldAAtHlDec => [0x3A#8]
  | .decSp => [0x3B#8]
  | .incA => [0x3C#8]
  | .decA => [0x3D#8]
  | .ldAN n => [0x3E#8, n]
  | .ccf => [0x3F#8]
  | .ldBB => [0x40#8]
  | .ldBC => [0x41#8]
  | .ldBD => [0x42#8]
  | .ldBE => [0x43#8]
  | .ldBH => [0x44#8]
  | .ldBL => [0x45#8]
  | .ldBAtHl => [0x46#8]
  | .ldBA => [0x47#8]
  | .ldCB => [0x48#8]
  | .ldCC => [0x49#8]
  | .ldCD => [0x4A#8]
  | .ldCE => [0x4B#8]
  | .ldCH => [0x4C#8]
  | .ldCL => [0x4D#8]
  | .ldCAtHl => [0x4E#8]
  | .ldCA => [0x4F#8]
  | .ldDB => [0x50#8]
  | .ldDC => [0x51#8]
  | .ldDD => [0x52#8]
  | .ldDE => [0x53#8]
  | .ldDH => [0x54#8]
  | .ldDL => [0x55#8]
  | .ldDAtHl => [0x56#8]
  | .ldDA => [0x57#8]
  | .ldEB => [0x58#8]
  | .ldEC => [0x59#8]
  | .ldED => [0x5A#8]
  | .ldEE => [0x5B#8]
  | .ldEH => [0x5C#8]
  | .ldEL => [0x5D#8]
  | .ldEAtHl => [0x5E#8]
  | .ldEA => [0x5F#8]
  | .ldHB => [0x60#8]
  | .ldHC => [0x61#8]
  | .ldHD => [0x62#8]
  | .ldHE => [0x63#8]
  | .ldHH => [0x64#8]
  | .ldHL => [0x65#8]
  | .ldHAtHl => [0x66#8]
  | .ldHA => [0x67#8]
  | .ldLB => [0x68#8]
  | .ldLC => [0x69#8]
  | .ldLD => [0x6A#8]
  | .ldLE => [0x6B#8]
  | .ldLH => [0x6C#8]
  | .ldLL => [0x6D#8]
  | .ldLAtHl => [0x6E#8]
  | .ldLA => [0x6F#8]
  | .ldAtHlB => [0x70#8]
  | .ldAtHlC => [0x71#8]
  | .ldAtHlD => [0x72#8]
  | .ldAtHlE => [0x73#8]
  | .ldAtHlH => [0x74#8]
  | .ldAtHlL => [0x75#8]
  | .halt => [0x76#8]
  | .ldAtHlA => [0x77#8]
  | .ldAB => [0x78#8]
  | .ldAC => [0x79#8]
  | .ldAD => [0x7A#8]
  | .ldAE => [0x7B#8]
  | .ldAH => [0x7C#8]
  | .ldAL => [0x7D#8]
  | .ldAAtHl => [0x7E#8]
  | .ldAA => [0x7F#8]
  | .addAB => [0x80#8]
  | .addAC => [0x81#8]
  | .addAD => [0x82#8]
  | .addAE => [0x83#8]
  | .addAH => [0x84#8]
  | .addAL => [0x85#8]
  | .addAAtHl => [0x86#8]
  | .addAA => [0x87#8]
  | .adcAB => [0x88#8]
  | .adcAC => [0x89#8]
  | .adcAD => [0x8A#8]
  | .adcAE => [0x8B#8]
  | .adcAH => [0x8C#8]
  | .adcAL => [0x8D#8]
  | .adcAAtHl => [0x8E#8]
  | .adcAA => [0x8F#8]
  | .subB => [0x90#8]
  | .subC => [0x91#8]
  | .subD => [0x92#8]
  | .subE => [0x93#8]
  | .subH => [0x94#8]
  | .subL => [0x95#8]
  | .subAtHl => [0x96#8]
  | .subA => [0x97#8]
  | .sbcAB => [0x98#8]
  | .sbcAC => [0x99#8]
  | .sbcAD => [0x9A#8]
  | .sbcAE => [0x9B#8]
  | .sbcAH => [0x9C#8]
  | .sbcAL => [0x9D#8]
  | .sbcAAtHl => [0x9E#8]
  | .sbcAA => [0x9F#8]
  | .andB => [0xA0#8]
  | .andC => [0xA1#8]
  | .andD => [0xA2#8]
  | .andE => [0xA3#8]
  | .andH => [0xA4#8]
  | .andL => [0xA5#8]
  | .andAtHl => [0xA6#8]
  | .andA => [0xA7#8]
  | .xorB => [0xA8#8]
  | .xorC => [0xA9#8]
  | .xorD => [0xAA#8]
  | .xorE => [0xAB#8]
  | .xorH => [0xAC#8]
  | .xorL => [0xAD#8]
  | .xorAtHl => [0xAE#8]
  | .xorA => [0xAF#8]
  | .orB => [0xB0#8]
  | .orC => [0xB1#8]
  | .orD => [0xB2#8]
  | .orE => [0xB3#8]
  | .orH => [0xB4#8]
  | .orL => [0xB5#8]
  | .orAtHl => [0xB6#8]
  | .orA => [0xB7#8]
  | .cpB => [0xB8#8]
  | .cpC => [0xB9#8]
  | .cpD => [0xBA#8]
  | .cpE => [0xBB#8]
  | .cpH => [0xBC#8]
  | .cpL => [0xBD#8]
  | .cpAtHl => [0xBE#8]
  | .cpA => [0xBF#8]
  | .retNz => [0xC0#8]
  | .popBc => [0xC1#8]
  | .jpNzNn nn => [0xC2#8, loByte nn, hiByte nn]
  | .jpNn nn => [0xC3#8, loByte nn, hiByte nn]
  | .callNzNn nn => [0xC4#8, loByte nn, hiByte nn]
  | .pushBc => [0xC5#8]
  | .addAN n => [0xC6#8, n]
  | .rst00 => [0xC7#8]
  | .retZ => [0xC8#8]
  | .ret => [0xC9#8]
  | .jpZNn nn => [0xCA#8, loByte nn, hiByte nn]
  | .prefixCb op2 => [0xCB#8, op2]
  | .callZNn nn => [0xCC#8, loByte nn, hiByte nn]
  | .callNn nn => [0xCD#8, loByte nn, hiByte nn]
  | .adcAN n => [0xCE#8, n]
  | .rst08 => [0xCF#8]
  | .retNc => [0xD0#8]
  | .popDe => [0xD1#8]
  | .jpNcNn nn => [0xD2#8, loByte nn, hiByte nn]
  | .illegalD3 => [0xD3#8]
  | .callNcNn nn => [0xD4#8, loByte nn, hiByte nn]
  | .pushDe => [0xD5#8]
  | .subN n => [0xD6#8, n]
  | .rst10 => [0xD7#8]
  | .retCy => [0xD8#8]
  | .reti => [0xD9#8]
  | .jpCyNn nn => [0xDA#8, loByte nn, hiByte nn]
  | .illegalDB => [0xDB#8]
  | .callCyNn nn => [0xDC#8, loByte nn, hiByte nn]
  | .illegalDD => [0xDD#8]
  | .sbcAN n => [0xDE#8, n]
  | .rst18 => [0xDF#8]
  | .ldhAtNA n => [0xE0#8, n]
  | .popHl => [0xE1#8]
  | .ldAtCA => [0xE2#8]
  | .illegalE3 => [0xE3#8]
  | .illegalE4 => [0xE4#8]
  | .pushHl => [0xE5#8]
  | .andN n => [0xE6#8, n]
  | .rst20 => [0xE7#8]
  | .addSpDisp e => [0xE8#8, e]
  | .jpHl => [0xE9#8]
  | .ldAtNnA nn => [0xEA#8, loByte nn, hiByte nn]
  | .illegalEB => [0xEB#8]
  | .illegalEC => [0xEC#8]
  | .illegalED => [0xED#8]
  | .xorN n => [0xEE#8, n]
  | .rst28 => [0xEF#8]
  | .ldhAAtN n => [0xF0#8, n]
  | .popAf => [0xF1#8]
  | .ldAAtC => [0xF2#8]
  | .di => [0xF3#8]
  | .illegalF4 => [0xF4#8]
  | .pushAf => [0xF5#8]
  | .orN n => [0xF6#8, n]
  | .rst30 => [0xF7#8]
  | .ldHlSpDisp e => [0xF8#8, e]
  | .ldSpHl => [0xF9#8]
  | .ldAAtNn nn => [0xFA#8, loByte nn, hiByte nn]
  | .ei => [0xFB#8]
  | .illegalFC => [0xFC#8]
  | .illegalFD => [0xFD#8]
  | .cpN n => [0xFE#8, n]
  | .rst38 => [0xFF#8]
  | .cbRlcB => [0xCB#8, 0x00#8]
  | .cbRlcC => [0xCB#8, 0x01#8]
  | .cbRlcD => [0xCB#8, 0x02#8]
  | .cbRlcE => [0xCB#8, 0x03#8]
  | .cbRlcH => [0xCB#8, 0x04#8]
  | .cbRlcL => [0xCB#8, 0x05#8]
  | .cbRlcAtHl => [0xCB#8, 0x06#8]
  | .cbRlcA => [0xCB#8, 0x07#8]
  | .cbRrcB => [0xCB#8, 0x08#8]
  | .cbRrcC => [0xCB#8, 0x09#8]
  | .cbRrcD => [0xCB#8, 0x0A#8]
  | .cbRrcE => [0xCB#8, 0x0B#8]
  | .cbRrcH => [0xCB#8, 0x0C#8]
  | .cbRrcL => [0xCB#8, 0x0D#8]
  | .cbRrcAtHl => [0xCB#8, 0x0E#8]
  | .cbRrcA => [0xCB#8, 0x0F#8]
  | .cbRlB => [0xCB#8, 0x10#8]
  | .cbRlC => [0xCB#8, 0x11#8]
  | .cbRlD => [0xCB#8, 0x12#8]
  | .cbRlE => [0xCB#8, 0x13#8]
  | .cbRlH => [0xCB#8, 0x14#8]
  | .cbRlL => [0xCB#8, 0x15#8]
  | .cbRlAtHl => [0xCB#8, 0x16#8]
  | .cbRlA => [0xCB#8, 0x17#8]
  | .cbRrB => [0xCB#8, 0x18#8]
  | .cbRrC => [0xCB#8, 0x19#8]
  | .cbRrD => [0xCB#8, 0x1A#8]
  | .cbRrE => [0xCB#8, 0x1B#8]
  | .cbRrH => [0xCB#8, 0x1C#8]
  | .cbRrL => [0xCB#8, 0x1D#8]
  | .cbRrAtHl => [0xCB#8, 0x1E#8]
  | .cbRrA => [0xCB#8, 0x1F#8]
  | .cbSlaB => [0xCB#8, 0x20#8]
  | .cbSlaC => [0xCB#8, 0x21#8]
  | .cbSlaD => [0xCB#8, 0x22#8]
  | .cbSlaE => [0xCB#8, 0x23#8]
  | .cbSlaH => [0xCB#8, 0x24#8]
  | .cbSlaL => [0xCB#8, 0x25#8]
  | .cbSlaAtHl => [0xCB#8, 0x26#8]
  | .cbSlaA => [0xCB#8, 0x27#8]
  | .cbSraB => [0xCB#8, 0x28#8]
  | .cbSraC => [0xCB#8, 0x29#8]
  | .cbSraD => [0xCB#8, 0x2A#8]
  | .cbSraE => [0xCB#8, 0x2B#8]
  | .cbSraH => [0xCB#8, 0x2C#8]
  | .cbSraL => [0xCB#8, 0x2D#8]
  | .cbSraAtHl => [0xCB#8, 0x2E#8]
  | .cbSraA => [0xCB#8, 0x2F#8]
  | .cbSwapB => [0xCB#8, 0x30#8]
  | .cbSwapC => [0xCB#8, 0x31#8]
  | .cbSwapD => [0xCB#8, 0x32#8]
  | .cbSwapE => [0xCB#8, 0x33#8]
  | .cbSwapH => [0xCB#8, 0x34#8]
  | .cbSwapL => [0xCB#8, 0x35#8]
  | .cbSwapAtHl => [0xCB#8, 0x36#8]
  | .cbSwapA => [0xCB#8, 0x37#8]
  | .cbSrlB => [0xCB#8, 0x38#8]
  | .cbSrlC => [0xCB#8, 0x39#8]
  | .cbSrlD => [0xCB#8, 0x3A#8]
  | .cbSrlE => [0xCB#8, 0x3B#8]
  | .cbSrlH => [0xCB#8, 0x3C#8]
  | .cbSrlL => [0xCB#8, 0x3D#8]
  | .cbSrlAtHl => [0xCB#8, 0x3E#8]
  | .cbSrlA => [0xCB#8, 0x3F#8]
  | .cbBit0B => [0xCB#8, 0x40#8]
  | .cbBit0C => [0xCB#8, 0x41#8]
  | .cbBit0D => [0xCB#8, 0x42#8]
  | .cbBit0E => [0xCB#8, 0x43#8]
  | .cbBit0H => [0xCB#8, 0x44#8]
  | .cbBit0L => [0xCB#8, 0x45#8]
  | .cbBit0AtHl => [0xCB#8, 0x46#8]
  | .cbBit0A => [0xCB#8, 0x47#8]
  | .cbBit1B => [0xCB#8, 0x48#8]
  | .cbBit1C => [0xCB#8, 0x49#8]
  | .cbBit1D => [0xCB#8, 0x4A#8]
  | .cbBit1E => [0xCB#8, 0x4B#8]
  | .cbBit1H => [0xCB#8, 0x4C#8]
  | .cbBit1L => [0xCB#8, 0x4D#8]
  | .cbBit1AtHl => [0xCB#8, 0x4E#8]
  | .cbBit1A => [0xCB#8, 0x4F#8]
  | .cbBit2B => [0xCB#8, 0x50#8]
  | .cbBit2C => [0xCB#8, 0x51#8]
  | .cbBit2D => [0xCB#8, 0x52#8]
  | .cbBit2E => [0xCB#8, 0x53#8]
  | .cbBit2H => [0xCB#8, 0x54#8]
  | .cbBit2L => [0xCB#8, 0x55#8]
  | .cbBit2AtHl => [0xCB#8, 0x56#8]
  | .cbBit2A => [0xCB#8, 0x57#8]
  | .cbBit3B => [0xCB#8, 0x58#8]
  | .cbBit3C => [0xCB#8, 0x59#8]
  | .cbBit3D => [0xCB#8, 0x5A#8]
  | .cbBit3E => [0xCB#8, 0x5B#8]
  | .cbBit3H => [0xCB#8, 0x5C#8]
  | .cbBit3L => [0xCB#8, 0x5D#8]
  | .cbBit3AtHl => [0xCB#8, 0x5E#8]
  | .cbBit3A => [0xCB#8, 0x5F#8]
  | .cbBit4B => [0xCB#8, 0x60#8]
  | .cbBit4C => [0xCB#8, 0x61#8]
  | .cbBit4D => [0xCB#8, 0x62#8]
  | .cbBit4E => [0xCB#8, 0x63#8]
  | .cbBit4H => [0xCB#8, 0x64#8]
  | .cbBit4L => [0xCB#8, 0x65#8]
  | .cbBit4AtHl => [0xCB#8, 0x66#8]
  | .cbBit4A => [0xCB#8, 0x67#8]
  | .cbBit5B => [0xCB#8, 0x68#8]
  | .cbBit5C => [0xCB#8, 0x69#8]
  | .cbBit5D => [0xCB#8, 0x6A#8]
  | .cbBit5E => [0xCB#8, 0x6B#8]
  | .cbBit5H => [0xCB#8, 0x6C#8]
  | .cbBit5L => [0xCB#8, 0x6D#8]
  | .cbBit5AtHl => [0xCB#8, 0x6E#8]
  | .cbBit5A => [0xCB#8, 0x6F#8]
  | .cbBit6B => [0xCB#8, 0x70#8]
  | .cbBit6C => [0xCB#8, 0x71#8]
  | .cbBit6D => [0xCB#8, 0x72#8]
  | .cbBit6E => [0xCB#8, 0x73#8]
  | .cbBit6H => [0xCB#8, 0x74#8]
  | .cbBit6L => [0xCB#8, 0x75#8]
  | .cbBit6AtHl => [0xCB#8, 0x76#8]
  | .cbBit6A => [0xCB#8, 0x77#8]
  | .cbBit7B => [0xCB#8, 0x78#8]
  | .cbBit7C => [0xCB#8, 0x79#8]
  | .cbBit7D => [0xCB#8, 0x7A#8]
  | .cbBit7E => [0xCB#8, 0x7B#8]
  | .cbBit7H => [0xCB#8, 0x7C#8]
  | .cbBit7L => [0xCB#8, 0x7D#8]
  | .cbBit7AtHl => [0xCB#8, 0x7E#8]
  | .cbBit7A => [0xCB#8, 0x7F#8]
  | .cbRes0B => [0xCB#8, 0x80#8]
  | .cbRes0C => [0xCB#8, 0x81#8]
  | .cbRes0D => [0xCB#8, 0x82#8]
  | .cbRes0E => [0xCB#8, 0x83#8]
  | .cbRes0H => [0xCB#8, 0x84#8]
  | .cbRes0L => [0xCB#8, 0x85#8]
  | .cbRes0AtHl => [0xCB#8, 0x86#8]
  | .cbRes0A => [0xCB#8, 0x87#8]
  | .cbRes1B => [0xCB#8, 0x88#8]
  | .cbRes1C => [0xCB#8, 0x89#8]
  | .cbRes1D => [0xCB#8, 0x8A#8]
  | .cbRes1E => [0xCB#8, 0x8B#8]
  | .cbRes1H => [0xCB#8, 0x8C#8]
  | .cbRes1L => [0xCB#8, 0x8D#8]
  | .cbRes1AtHl => [0xCB#8, 0x8E#8]
  | .cbRes1A => [0xCB#8, 0x8F#8]
  | .cbRes2B => [0xCB#8, 0x90#8]
  | .cbRes2C => [0xCB#8, 0x91#8]
  | .cbRes2D => [0xCB#8, 0x92#8]
  | .cbRes2E => [0xCB#8, 0x93#8]
  | .cbRes2H => [0xCB#8, 0x94#8]
  | .cbRes2L => [0xCB#8, 0x95#8]
  | .cbRes2AtHl => [0xCB#8, 0x96#8]
  | .cbRes2A => [0xCB#8, 0x97#8]
  | .cbRes3B => [0xCB#8, 0x98#8]
  | .cbRes3C => [0xCB#8, 0x99#8]
  | .cbRes3D => [0xCB#8, 0x9A#8]
  | .cbRes3E => [0xCB#8, 0x9B#8]
  | .cbRes3H => [0xCB#8, 0x9C#8]
  | .cbRes3L => [0xCB#8, 0x9D#8]
  | .cbRes3AtHl => [0xCB#8, 0x9E#8]
  | .cbRes3A => [0xCB#8, 0x9F#8]
  | .cbRes4B => [0xCB#8, 0xA0#8]
  | .cbRes4C => [0xCB#8, 0xA1#8]
  | .cbRes4D => [0xCB#8, 0xA2#8]
  | .cbRes4E => [0xCB#8, 0xA3#8]
  | .cbRes4H => [0xCB#8, 0xA4#8]
  | .cbRes4L => [0xCB#8, 0xA5#8]
  | .cbRes4AtHl => [0xCB#8, 0xA6#8]
  | .cbRes4A => [0xCB#8, 0xA7#8]
  | .cbRes5B => [0xCB#8, 0xA8#8]
  | .cbRes5C => [0xCB#8, 0xA9#8]
  | .cbRes5D => [0xCB#8, 0xAA#8]
  | .cbRes5E => [0xCB#8, 0xAB#8]
  | .cbRes5H => [0xCB#8, 0xAC#8]
  | .cbRes5L => [0xCB#8, 0xAD#8]
  | .cbRes5AtHl => [0xCB#8, 0xAE#8]
  | .cbRes5A => [0xCB#8, 0xAF#8]
  | .cbRes6B => [0xCB#8, 0xB0#8]
  | .cbRes6C => [0xCB#8, 0xB1#8]
  | .cbRes6D => [0xCB#8, 0xB2#8]
  | .cbRes6E => [0xCB#8, 0xB3#8]
  | .cbRes6H => [0xCB#8, 0xB4#8]
  | .cbRes6L => [0xCB#8, 0xB5#8]
  | .cbRes6AtHl => [0xCB#8, 0xB6#8]
  | .cbRes6A => [0xCB#8, 0xB7#8]
  | .cbRes7B => [0xCB#8, 0xB8#8]
  | .cbRes7C => [0xCB#8, 0xB9#8]
  | .cbRes7D => [0xCB#8, 0xBA#8]
  | .cbRes7E => [0xCB#8, 0xBB#8]
  | .cbRes7H => [0xCB#8, 0xBC#8]
  | .cbRes7L => [0xCB#8, 0xBD#8]
  | .cbRes7AtHl => [0xCB#8, 0xBE#8]
  | .cbRes7A => [0xCB#8, 0xBF#8]
  | .cbSet0B => [0xCB#8, 0xC0#8]
  | .cbSet0C => [0xCB#8, 0xC1#8]
  | .cbSet0D => [0xCB#8, 0xC2#8]
  | .cbSet0E => [0xCB#8, 0xC3#8]
  | .cbSet0H => [0xCB#8, 0xC4#8]
  | .cbSet0L => [0xCB#8, 0xC5#8]
  | .cbSet0AtHl => [0xCB#8, 0xC6#8]
  | .cbSet0A => [0xCB#8, 0xC7#8]
  | .cbSet1B => [0xCB#8, 0xC8#8]
  | .cbSet1C => [0xCB#8, 0xC9#8]
  | .cbSet1D => [0xCB#8, 0xCA#8]
  | .cbSet1E => [0xCB#8, 0xCB#8]
  | .cbSet1H => [0xCB#8, 0xCC#8]
  | .cbSet1L => [0xCB#8, 0xCD#8]
  | .cbSet1AtHl => [0xCB#8, 0xCE#8]
  | .cbSet1A => [0xCB#8, 0xCF#8]
  | .cbSet2B => [0xCB#8, 0xD0#8]
  | .cbSet2C => [0xCB#8, 0xD1#8]
  | .cbSet2D => [0xCB#8, 0xD2#8]
  | .cbSet2E => [0xCB#8, 0xD3#8]
  | .cbSet2H => [0xCB#8, 0xD4#8]
  | .cbSet2L => [0xCB#8, 0xD5#8]
  | .cbSet2AtHl => [0xCB#8, 0xD6#8]
  | .cbSet2A => [0xCB#8, 0xD7#8]
  | .cbSet3B => [0xCB#8, 0xD8#8]
  | .cbSet3C => [0xCB#8, 0xD9#8]
  | .cbSet3D => [0xCB#8, 0xDA#8]
  | .cbSet3E => [0xCB#8, 0xDB#8]
  | .cbSet3H => [0xCB#8, 0xDC#8]
  | .cbSet3L => [0xCB#8, 0xDD#8]
  | .cbSet3AtHl => [0xCB#8, 0xDE#8]
  | .cbSet3A => [0xCB#8, 0xDF#8]
  | .cbSet4B => [0xCB#8, 0xE0#8]
  | .cbSet4C => [0xCB#8, 0xE1#8]
  | .cbSet4D => [0xCB#8, 0xE2#8]
  | .cbSet4E => [0xCB#8, 0xE3#8]
  | .cbSet4H => [0xCB#8, 0xE4#8]
  | .cbSet4L => [0xCB#8, 0xE5#8]
  | .cbSet4AtHl => [0xCB#8, 0xE6#8]
  | .cbSet4A => [0xCB#8, 0xE7#8]
  | .cbSet5B => [0xCB#8, 0xE8#8]
  | .cbSet5C => [0xCB#8, 0xE9#8]
  | .cbSet5D => [0xCB#8, 0xEA#8]
  | .cbSet5E => [0xCB#8, 0xEB#8]
  | .cbSet5H => [0xCB#8, 0xEC#8]
  | .cbSet5L => [0xCB#8, 0xED#8]
  | .cbSet5AtHl => [0xCB#8, 0xEE#8]
  | .cbSet5A => [0xCB#8, 0xEF#8]
  | .cbSet6B => [0xCB#8, 0xF0#8]
  | .cbSet6C => [0xCB#8, 0xF1#8]
  | .cbSet6D => [0xCB#8, 0xF2#8]
  | .cbSet6E => [0xCB#8, 0xF3#8]
  | .cbSet6H => [0xCB#8, 0xF4#8]
  | .cbSet6L => [0xCB#8, 0xF5#8]
  | .cbSet6AtHl => [0xCB#8, 0xF6#8]
  | .cbSet6A => [0xCB#8, 0xF7#8]
  | .cbSet7B => [0xCB#8, 0xF8#8]
  | .cbSet7C => [0xCB#8, 0xF9#8]
  | .cbSet7D => [0xCB#8, 0xFA#8]
  | .cbSet7E => [0xCB#8, 0xFB#8]
  | .cbSet7H => [0xCB#8, 0xFC#8]
  | .cbSet7L => [0xCB#8, 0xFD#8]
  | .cbSet7AtHl => [0xCB#8, 0xFE#8]
  | .cbSet7A => [0xCB#8, 0xFF#8]

/-! ## The table's words -/

/-- The bytes of a word of spec/opcode_table.json, first byte first, three of them, the bits above `nbits` zero. A word's first byte
is its bits 7..0. The table writes an extended row as one number with the prefix in bits 15..8 (0xCB00 + op2), while the prefix is
the first byte (R101, R115): a 16-bit word whose upper byte is 0xCB is read so (assumption log 13). -/
def tableBytes (nbits w : Nat) : List Byte :=
  let v := w % 2 ^ nbits
  if nbits = 16 ∧ v / 0x100 = 0xCB then [0xCB#8, BitVec.ofNat 8 v, 0x00#8]
  else [BitVec.ofNat 8 v, BitVec.ofNat 8 (v / 0x100), BitVec.ofNat 8 (v / 0x10000)]

/-- The instruction the decoder reads from a word of the opcode table. -/
def decodeTableWord (nbits w : Nat) : Option Instr :=
  match decode (tableBytes nbits w) with
  | .ok i => some i
  | .error _ => none

end Sys2Proof
end

