-- ==== Sys2Proof/Config.lean ====
section
/-! DEFINITION. The launch parameters of 00_scope.md R10 and the constants the model fixes. Each parameter is plain data held in
State (assumption log 1), so a statement about every state quantifies over every value of it. -/

namespace Sys2Proof

/-- `TIMING` (R10, R315): which cycle count an instruction and the interrupt service add. -/
inductive Timing where
  /-- 4 cycles a bus access, nothing else. -/
  | access
  /-- The hardware's counts. -/
  | hardware
  deriving DecidableEq, Repr

/-- `BUS_POLICY` (R10, 20_memory.md R62): what an access outside the routing table does. -/
inductive BusPolicy where
  /-- It raises `BusFault`. -/
  | strict
  /-- A read returns 0xFF, a write changes nothing. -/
  | lenient
  deriving DecidableEq, Repr

/-- The four named parameters that steer a running machine (R10). -/
structure Params where
  timing : Timing
  busPolicy : BusPolicy
  /-- Whether EI takes effect after the following instruction (47_system.md R219). -/
  eiDelay : Bool
  /-- Whether LCDC bit 7 = 0 stops the PPU (60_exceptions.md R271). -/
  lcdGates : Bool
  deriving DecidableEq, Repr

/-- The defaults of R10's table. -/
def Params.default : Params :=
  { timing := .access, busPolicy := .strict, eiDelay := false, lcdGates := true }

/-- What a storage byte that no list entry names reads as. DESIGN CHOICE (assumption log 3, unsafe): R300 leaves INIT_MEM free.
For ERAM it is the zero of R52 and R300. -/
def Config.unlisted : Byte := 0x00#8

/-- OBP0 and OBP1 at a no-boot reset. DESIGN CHOICE (assumption log 5, unsafe): R48 and R300 leave them free. -/
def Config.obpReset : Byte := 0x00#8

end Sys2Proof
end

