-- ==== Sys2Proof/Machine/State.lean ====
section
/-! DEFINITION. The state of the machine (10_state.md): plain data holding everything the spec gives it, the reasons a step can stop
(60_exceptions.md R236), and the state after reset (70_reset_and_hazards.md R300). -/

namespace Sys2Proof.Machine

/-! ## Memories -/

/-- The contents of one storage array (R52): (offset, byte) pairs in one canonical form, offsets strictly rising and no entry equal
to what an unlisted offset reads as (`Memory.wf`, Machine/Memory.lean). -/
abbrev Memory := List Host.Cell

/-! ## CPU -/

/-- The four flag bits, bits 7 to 4 of F (R22, R23). The low nibble of F is always zero and is not stored (R22, assumption log 9). -/
structure Flags where
  z : Bool
  n : Bool
  h : Bool
  c : Bool
  deriving DecidableEq, Repr

/-- The CPU's registers and hidden latches (R20 to R28). -/
structure Cpu where
  a : Byte
  f : Flags
  b : Byte
  c : Byte
  d : Byte
  e : Byte
  h : Byte
  l : Byte
  sp : Word
  pc : Word
  /-- IME, the interrupt master enable (R26). -/
  ime : Bool
  /-- R27. -/
  halted : Bool
  /-- `ei_pending`, a 2-bit counter, always 0 unless `EI_DELAY` (R28). -/
  eiPending : BitVec 2
  deriving DecidableEq, Repr

/-! ## Peripherals -/

/-- The timer (R38 to R41) and its request flag (R33). -/
structure Timer where
  /-- The free-running counter, DIV its high byte. -/
  counter : Word
  tima : Byte
  tma : Byte
  /-- Bit 2 enable, bits 1-0 select. -/
  tac : BitVec 3
  /-- `req_timer`. -/
  req : Bool
  deriving DecidableEq, Repr

/-- The PPU's mode (R18, R50), numbered 0 to 3 in this order. -/
inductive PpuMode where
  | hBlank
  | vBlank
  | oamSearch
  | pixelTransfer
  deriving DecidableEq, Repr

/-- The PPU's registers and timing state (R42 to R50) and its request flags (R33). -/
structure Ppu where
  lcdc : Byte
  /-- `stat_en`: STAT bits 6-3, so bits 0, 1, 2 are the enables of modes 0, 1, 2 and bit 3 that of LY = LYC. -/
  statEn : BitVec 4
  /-- The coincidence flag, STAT bit 2. -/
  coin : Bool
  mode : PpuMode
  /-- The cycles spent in the mode. -/
  clock : Nat
  /-- The scanline index. -/
  ly : Nat
  lyc : Byte
  scy : Byte
  scx : Byte
  bgp : Byte
  obp0 : Byte
  obp1 : Byte
  wy : Byte
  wx : Byte
  /-- `req_vblank`. -/
  reqVblank : Bool
  /-- `req_stat`. -/
  reqStat : Bool
  deriving DecidableEq, Repr

/-- The input latch (R36, R37) and its request flag (R33). -/
structure Input where
  /-- `sel`, P1 bits 5-4. -/
  sel : BitVec 2
  /-- The key bitmap, active low. -/
  keys : Byte
  /-- `req_input`. -/
  req : Bool
  deriving DecidableEq, Repr

/-- The cartridge RAM sizes of 20_memory.md R83, by their codes 0x00 to 0x05. -/
inductive RamSize where
  | none
  | kib2
  | kib8
  | kib32
  | kib128
  | kib64
  deriving DecidableEq, Repr

/-- The cartridge: its image, its RAM and its banking latches (R51, R52), and the sizes read from its header at construction
(00_scope.md R11). -/
structure Cart where
  rom : Memory
  /-- The ROM-size code `k`, for `N_ROM = 2 << k` banks (R83). -/
  romCode : Fin 9
  eram : Memory
  ramSize : RamSize
  ramEn : Bool
  bankLo : BitVec 5
  bankHi : BitVec 2
  bankMode : Bool
  deriving DecidableEq, Repr

/-- Everything behind the CPU's bus: the interrupt registers, the boot mapping, the peripherals, the cartridge, the storage arrays
(R30 to R52), and the launch parameters (R10), which nothing changes. -/
structure Bus where
  params : Params
  /-- IF (R30). -/
  intFlag : Byte
  /-- IE (R31). -/
  intEnable : Byte
  booting : Bool
  /-- BOOT, the boot image (R52). -/
  boot : Memory
  timer : Timer
  ppu : Ppu
  input : Input
  cart : Cart
  vram : Memory
  oam : Memory
  wram : Memory
  hram : Memory
  deriving DecidableEq, Repr

/-! ## Stopping -/

/-- The direction of a bus access, recorded by `BusFault` (R62). -/
inductive Access where
  | read
  | write
  deriving DecidableEq, Repr

/-- The fault kinds of 60_exceptions.md R236 with the information each records. -/
inductive FaultKind where
  /-- The address of the opcode and the byte. -/
  | illegalOpcode (addr : Word) (op : Byte)
  | busFault (addr : Word) (access : Access)
  | cartRamAbsent (addr : Word)
  /-- The page written to 0xFF46. -/
  | dmaSource (v : Byte)
  deriving DecidableEq, Repr

/-- `status` (R29). `Unmodelled` is a refusal, kept distinct from the faults (R236). -/
inductive Status where
  | running
  | faulted (kind : FaultKind)
  | unmodelled (addr : Word) (op : Byte)
  deriving DecidableEq, Repr

/-! ## The machine -/

/-- The whole machine. -/
structure State where
  cpu : Cpu
  bus : Bus
  /-- The cycle tally: within a step what it has added so far (R233), between steps the last step's result (R234). -/
  tally : Nat
  /-- The running total of step results that R234 lets a model add. -/
  cycles : Nat
  status : Status
  deriving DecidableEq, Repr

/-- Why the machine stops. Every fault carries the faulted state (R29, R237): the effects before the fault, nothing after it, and
`status` set. The spec calls each of these fatal (R236), so stopping is what the machine does: safe. -/
inductive Fault where
  /-- One of the 11 illegal bytes was fetched as an opcode (30_encoding.md R113). Raised by the meanings of the illegal rows. Safe. -/
  | illegalOpcode (addr : Word) (op : Byte) (final : State)
  /-- An access outside the routing table under `Strict` (20_memory.md R62). Raised by any bus access. Safe. -/
  | busFault (addr : Word) (access : Access) (final : State)
  /-- An access to the enabled RAM window of a cartridge without RAM (R77). Raised by any bus access. Safe. -/
  | cartRamAbsent (addr : Word) (final : State)
  /-- A write to 0xFF46 of a page outside 0x80 to 0xDF (R91). Raised by any bus write. Safe. -/
  | dmaSource (v : Byte) (final : State)
  deriving DecidableEq, Repr

/-- Why the model gives no next state without the machine having faulted. -/
inductive Refusal where
  /-- The instruction of this mnemonic has no meaning yet. Raised by `exec` alone. Safe. -/
  | notModelled (mnemonic : String)
  /-- STOP: the spec refuses it, `Fault(Unmodelled, (address, 0x10))` (47_system.md R217, 60_exceptions.md R236). Raised by the
  meaning of STOP. Safe: the spec has no meaning for the instruction. -/
  | unmodelled (addr : Word) (op : Byte) (final : State)
  deriving DecidableEq, Repr

/-- What a step, an instruction or an operation of the machine ends in. -/
abbrev Out := Host.Outcome State Fault Refusal

/-! ## Reset -/

/-- The eight registers at power-on: `INIT_REGS` of R10, F already stored `& 0xF0`. -/
structure InitRegs where
  a : Byte
  f : Flags
  b : Byte
  c : Byte
  d : Byte
  e : Byte
  h : Byte
  l : Byte
  deriving DecidableEq, Repr

/-- The registers a no-boot machine starts with (R20, R300): F = 0xB0. -/
def InitRegs.noBoot : InitRegs :=
  { a := 0x01#8, f := { z := true, n := false, h := true, c := true }, b := 0x00#8, c := 0x13#8,
    d := 0x00#8, e := 0xD8#8, h := 0x01#8, l := 0x4D#8 }

/-- What a launch supplies beside the parameters (R10): the cartridge with its sizes, the boot image if there is one, and the free
contents of registers and memories. -/
structure Launch where
  params : Params
  rom : Memory
  romCode : Fin 9
  eram : Memory
  ramSize : RamSize
  /-- `BOOT_IMAGE`: `none` is the no-boot configuration. -/
  bootImage : Option Memory
  /-- `INIT_REGS`, used in the boot configuration. -/
  regs : InitRegs
  obp0 : Byte
  obp1 : Byte
  vram : Memory
  oam : Memory
  wram : Memory
  hram : Memory
  deriving DecidableEq, Repr

/-- The reset table of R300, one line a row, for both configurations. -/
def State.atReset (launch : Launch) : State :=
  let noBoot : Bool := launch.bootImage.isNone
  let lcdc : Byte := if noBoot then 0x91#8 else 0x00#8
  let regs : InitRegs := if noBoot then InitRegs.noBoot else launch.regs
  { cpu :=
      { a := regs.a, f := regs.f, b := regs.b, c := regs.c, d := regs.d, e := regs.e, h := regs.h, l := regs.l
        sp := 0xFFFE#16
        pc := if noBoot then 0x0100#16 else 0x0000#16
        ime := false
        halted := false
        eiPending := 0#2 }
    bus :=
      { params := launch.params
        intFlag := if noBoot then 0xE1#8 else 0x00#8
        intEnable := 0x00#8
        booting := !noBoot
        boot := launch.bootImage.getD []
        timer :=
          { counter := if noBoot then 0xABCC#16 else 0x0000#16
            tima := 0x00#8, tma := 0x00#8, tac := 0#3, req := false }
        ppu :=
          { lcdc := lcdc, statEn := 0#4, coin := true
            mode := if launch.params.lcdGates && !lcdc.getLsbD 7 then .hBlank else .oamSearch
            clock := 0, ly := 0, lyc := 0x00#8, scy := 0x00#8, scx := 0x00#8
            bgp := if noBoot then 0xFC#8 else 0x00#8
            obp0 := if noBoot then launch.obp0 else 0x00#8
            obp1 := if noBoot then launch.obp1 else 0x00#8
            wy := 0x00#8, wx := 0x00#8, reqVblank := false, reqStat := false }
        input := { sel := if noBoot then 0b00#2 else 0b11#2, keys := 0xFF#8, req := false }
        cart :=
          { rom := launch.rom, romCode := launch.romCode, eram := launch.eram, ramSize := launch.ramSize
            ramEn := false, bankLo := 0#5, bankHi := 0#2, bankMode := false }
        vram := launch.vram, oam := launch.oam, wram := launch.wram, hram := launch.hram }
    tally := 0
    cycles := 0
    status := .running }

/-- The launch behind `State.reset`: the no-boot configuration, the default parameters, and nothing listed in any memory. DESIGN
CHOICE (assumption logs 1 to 5): the spec leaves the image, the memories and OBP0, OBP1 to the launch. -/
def Launch.empty : Launch :=
  { params := Params.default, rom := [], romCode := 0, eram := [], ramSize := .none, bootImage := none
    regs := InitRegs.noBoot, obp0 := Config.obpReset, obp1 := Config.obpReset
    vram := [], oam := [], wram := [], hram := [] }

/-- The machine right after reset: R300's table for the no-boot configuration, with no cartridge image placed. -/
def State.reset : State := State.atReset Launch.empty

end Sys2Proof.Machine
end

