-- ==== Sys2Proof/Machine/Memory.lean ====
section
/-! DEFINITION. The storage arrays (10_state.md R52): reading and writing one byte of a canonical list, and the canonical form. -/

namespace Sys2Proof.Machine

/-- The byte at an offset; an unlisted offset reads `Config.unlisted`. -/
def Memory.read (m : Memory) (k : Nat) : Byte :=
  match m with
  | [] => Config.unlisted
  | (key, v) :: rest => if key = k then v else Memory.read rest k

/-- The list with `(k, v)` put before the first greater key. -/
def Memory.insert (m : Memory) (k : Nat) (v : Byte) : Memory :=
  match m with
  | [] => [(k, v)]
  | (key, w) :: rest => if k < key then (k, v) :: (key, w) :: rest else (key, w) :: Memory.insert rest k v

/-- The list without the key `k`. -/
def Memory.erase (m : Memory) (k : Nat) : Memory :=
  match m with
  | [] => []
  | (key, w) :: rest => if key = k then Memory.erase rest k else (key, w) :: Memory.erase rest k

/-- The write of one byte; writing what an unlisted offset reads as removes the entry. -/
def Memory.write (m : Memory) (k : Nat) (v : Byte) : Memory :=
  if v = Config.unlisted then m.erase k else (m.erase k).insert k v

/-- Whether the keys rise strictly from `lo` on and no entry equals what an unlisted offset reads as. -/
def Memory.wfFrom (lo : Nat) (m : Memory) : Bool :=
  match m with
  | [] => true
  | (key, v) :: rest => decide (lo ≤ key) && !(v == Config.unlisted) && Memory.wfFrom (key + 1) rest

/-- The canonical form: keys strictly rising, no entry equal to what an unlisted offset reads as. -/
def Memory.wf (m : Memory) : Bool := Memory.wfFrom 0 m

/-- Whether every key is below `size`: the array holds no byte it does not have. -/
def Memory.below (size : Nat) (m : Memory) : Bool := m.all fun cell => decide (cell.1 < size)

/-- The array whose bytes from offset `k` on are those of the list. -/
def Memory.ofBytesFrom (k : Nat) (bytes : List Byte) : Memory :=
  match bytes with
  | [] => []
  | v :: rest => if v = Config.unlisted then Memory.ofBytesFrom (k + 1) rest else (k, v) :: Memory.ofBytesFrom (k + 1) rest

/-- The array that begins with these bytes, the rest unlisted. -/
def Memory.ofBytes (bytes : List Byte) : Memory := Memory.ofBytesFrom 0 bytes

/-- The first `size` bytes of the array, in order. -/
def Memory.toBytes (size : Nat) (m : Memory) : List Byte := (List.range size).map m.read

end Sys2Proof.Machine
end

