-- ==== Sys2Proof/Machine/Cart.lean ====
section
/-! DEFINITION. The cartridge's banking multiplexer (20_memory.md R70 to R79) and its size codes (R83). -/

namespace Sys2Proof.Machine

/-- `N_ROM`, the number of 16 KiB banks (R83). -/
def Cart.nRom (c : Cart) : Nat := 2 <<< c.romCode.val

/-- `RAM_SIZE` in bytes (R83). -/
def RamSize.bytes (r : RamSize) : Nat :=
  match r with
  | .none => 0
  | .kib2 => 0x800
  | .kib8 => 0x2000
  | .kib32 => 0x8000
  | .kib128 => 0x20000
  | .kib64 => 0x10000

/-- The RAM size of header byte 0x0149, if the code is one of R83. -/
def RamSize.ofCode (code : Nat) : Option RamSize :=
  match code with
  | 0 => some .none
  | 1 => some .kib2
  | 2 => some .kib8
  | 3 => some .kib32
  | 4 => some .kib128
  | 5 => some .kib64
  | _ => Option.none

/-- The bank requested for the switchable window, before the remap (R73). -/
def Cart.requestedBank (c : Cart) : Nat :=
  if c.bankMode then c.bankLo.toNat else (c.bankHi.toNat <<< 5) ||| c.bankLo.toNat

/-- The remap of 0x00, 0x20, 0x40 and 0x60 to themselves plus one (R73). -/
def remapBank (b : Nat) : Nat := if b = 0x00 ∨ b = 0x20 ∨ b = 0x40 ∨ b = 0x60 then b + 1 else b

/-- `rom_bank` (R73). -/
def Cart.romBank (c : Cart) : Nat := remapBank c.requestedBank &&& (c.nRom - 1)

/-- `ram_bank` (R74). -/
def Cart.ramBank (c : Cart) : Nat := if c.bankMode then c.bankHi.toNat else 0

/-- The fixed ROM window, 0x0000 to 0x3FFF (R72). -/
def Cart.readFixed (off : Nat) (c : Cart) : Byte := c.rom.read off

/-- The switchable ROM window, `off` counted from 0x4000 (R76). -/
def Cart.readSwitched (off : Nat) (c : Cart) : Byte := c.rom.read (c.romBank * 0x4000 + off)

/-- The ERAM offset that the RAM window reaches, `off` counted from 0xA000 (R77). -/
def Cart.ramOffset (off : Nat) (c : Cart) : Nat := (c.ramBank * 0x2000 + off) % c.ramSize.bytes

/-- A write to 0x0000 to 0x7FFF sets one latch, chosen by the address (R70, R71). -/
def Cart.writeLatch (addr : Nat) (v : Byte) (c : Cart) : Cart :=
  if addr < 0x2000 then { c with ramEn := v.extractLsb' 0 4 == 0xA#4 }
  else if addr < 0x4000 then { c with bankLo := v.extractLsb' 0 5 }
  else if addr < 0x6000 then { c with bankHi := v.extractLsb' 0 2 }
  else { c with bankMode := v.getLsbD 0 }

end Sys2Proof.Machine
end

