-- ==== Sys2Proof/Machine/Input.lean ====
section
/-! DEFINITION. The input latch (10_state.md R36, R37) and the host's key events (60_exceptions.md R285). -/

namespace Sys2Proof.Machine

/-- The eight keys (R37). -/
inductive Key where
  | right
  | left
  | up
  | down
  | a
  | b
  | select
  | start
  deriving DecidableEq, Repr

/-- `bit(k)` (R37). -/
def Key.bit (k : Key) : Nat :=
  match k with
  | .right => 0
  | .left => 1
  | .up => 2
  | .down => 3
  | .a => 4
  | .b => 5
  | .select => 6
  | .start => 7

/-- P1's read (R36): bits 7-6 read 1, the selector, and the selected half or halves of the key bitmap. -/
def Input.readP1 (i : Input) : Byte :=
  let buttons : BitVec 4 := if i.sel.getLsbD 1 then 0xF#4 else i.keys.extractLsb' 4 4
  let directions : BitVec 4 := if i.sel.getLsbD 0 then 0xF#4 else i.keys.extractLsb' 0 4
  0b11#2 ++ i.sel ++ (buttons &&& directions)

/-- P1's write stores `v & 0x30` and changes nothing else (R36). -/
def Input.writeP1 (v : Byte) (i : Input) : Input := { i with sel := v.extractLsb' 4 2 }

/-- The mask of a key's bit in the bitmap. -/
def Key.mask (k : Key) : Byte := 1#8 <<< k.bit

/-- `key_down(k)` (R285): a transition clears the key's bit and sets the request; a key already down changes nothing. -/
def Input.keyDown (k : Key) (i : Input) : Input :=
  if i.keys.getLsbD k.bit then { i with keys := i.keys &&& ~~~k.mask, req := true } else i

/-- `key_up(k)` (R285). -/
def Input.keyUp (k : Key) (i : Input) : Input := { i with keys := i.keys ||| k.mask }

/-- The host's `key_down` between steps: it may touch `keys` and `req_input` only (R287). -/
def State.keyDown (k : Key) (s : State) : State := { s with bus := { s.bus with input := s.bus.input.keyDown k } }

/-- The host's `key_up` between steps (R287). -/
def State.keyUp (k : Key) (s : State) : State := { s with bus := { s.bus with input := s.bus.input.keyUp k } }

end Sys2Proof.Machine
end

