-- ==== Sys2Proof/Machine/Ppu.lean ====
section
/-! DEFINITION. The PPU's scanline timing and its registers (10_state.md R42 to R50, 60_exceptions.md R270 to R279). Rendering is
out of scope (00_scope.md R7, R282). -/

namespace Sys2Proof.Machine

/-- The mode field of STAT (R43, R272). -/
def PpuMode.code (m : PpuMode) : BitVec 2 :=
  match m with
  | .hBlank => 0#2
  | .vBlank => 1#2
  | .oamSearch => 2#2
  | .pixelTransfer => 3#2

/-- `dur` (R270). -/
def PpuMode.duration (m : PpuMode) : Nat :=
  match m with
  | .hBlank => 204
  | .vBlank => 456
  | .oamSearch => 80
  | .pixelTransfer => 172

/-- The STAT enable bit of a mode's request (R276): `stat_en` bit 0, 1, 2 for mode 0, 1, 2; mode 3 has no request. -/
def Ppu.modeEnabled (m : PpuMode) (p : Ppu) : Bool :=
  match m with
  | .hBlank => p.statEn.getLsbD 0
  | .vBlank => p.statEn.getLsbD 1
  | .oamSearch => p.statEn.getLsbD 2
  | .pixelTransfer => false

/-- `mode_request(m)` (R276). -/
def Ppu.modeRequest (m : PpuMode) (p : Ppu) : Ppu := { p with reqStat := p.reqStat || p.modeEnabled m }

/-- `coincidence()` (R277). -/
def Ppu.coincidence (p : Ppu) : Ppu :=
  let equal : Bool := p.ly == p.lyc.toNat
  { p with coin := equal, reqStat := p.reqStat || (equal && p.statEn.getLsbD 3) }

/-- One transition of the state machine, the mode's duration already taken off the clock (the `case` of R270). -/
def Ppu.transition (p : Ppu) : Ppu :=
  match p.mode with
  | .oamSearch => { p with mode := .pixelTransfer }
  | .pixelTransfer => ({ p with mode := .hBlank }).modeRequest .hBlank
  | .hBlank =>
    let q := ({ p with ly := p.ly + 1 }).coincidence
    if q.ly = 144 then ({ q with mode := .vBlank, reqVblank := true }).modeRequest .vBlank
    else ({ q with mode := .oamSearch }).modeRequest .oamSearch
  | .vBlank =>
    if p.ly + 1 = 154 then ({ ({ p with ly := 0 }).coincidence with mode := .oamSearch }).modeRequest .oamSearch
    else ({ p with ly := p.ly + 1 }).coincidence

/-- The loop `while clock >= dur(mode)` of R270, at most `fuel` times round. -/
def Ppu.run (fuel : Nat) (p : Ppu) : Ppu :=
  match fuel with
  | 0 => p
  | fuel + 1 =>
    if p.clock < p.mode.duration then p
    else Ppu.run fuel ({ p with clock := p.clock - p.mode.duration }).transition

/-- Whether LCDC bit 7 stops the state machine (R271). -/
def Ppu.stopped (gates : Bool) (p : Ppu) : Bool := gates && !p.lcdc.getLsbD 7

/-- `ppu_advance(n)` (R270). Every duration is at least 80, so the loop ends within `clock / 80` rounds. -/
def Ppu.advance (gates : Bool) (n : Nat) (p : Ppu) : Ppu :=
  if p.stopped gates then p
  else ({ p with clock := p.clock + n }).run ((p.clock + n) / 80)

/-- A write to LCDC (R42, R271): a change of bit 7 resets the state machine when LCDC gates it. Switched on, it starts at line 0
(assumption log 14). -/
def Ppu.writeLcdc (gates : Bool) (v : Byte) (p : Ppu) : Ppu :=
  let q := { p with lcdc := v }
  if gates && p.lcdc.getLsbD 7 && !v.getLsbD 7 then ({ q with mode := .hBlank, clock := 0, ly := 0 }).coincidence
  else if gates && !p.lcdc.getLsbD 7 && v.getLsbD 7 then ({ q with mode := .oamSearch, clock := 0, ly := 0 }).coincidence
  else q

/-- STAT reads `0x80 | (stat_en << 3) | (coin << 2) | mode` (R43). -/
def Ppu.readStat (p : Ppu) : Byte := 1#1 ++ p.statEn ++ BitVec.ofBool p.coin ++ p.mode.code

/-- A write to STAT stores `v[6:3]` and re-evaluates the coincidence (R43, R277). -/
def Ppu.writeStat (v : Byte) (p : Ppu) : Ppu := ({ p with statEn := v.extractLsb' 3 4 }).coincidence

/-- LY reads the scanline index (R45). -/
def Ppu.readLy (p : Ppu) : Byte := BitVec.ofNat 8 p.ly

/-- A write to LYC stores the byte and re-evaluates the coincidence (R46, R277). -/
def Ppu.writeLyc (v : Byte) (p : Ppu) : Ppu := ({ p with lyc := v }).coincidence

/-- Whether the CPU reaches VRAM: in every mode but 3 (20_memory.md R66). -/
def Ppu.vramOpen (p : Ppu) : Bool :=
  match p.mode with
  | .hBlank => true
  | .vBlank => true
  | .oamSearch => true
  | .pixelTransfer => false

/-- Whether the CPU reaches OAM: in modes 0 and 1 only (20_memory.md R67). -/
def Ppu.oamOpen (p : Ppu) : Bool :=
  match p.mode with
  | .hBlank => true
  | .vBlank => true
  | .oamSearch => false
  | .pixelTransfer => false

end Sys2Proof.Machine
end

