-- ==== Sys2Proof/Machine/Timer.lean ====
section
/-! DEFINITION. The timer (10_state.md R38 to R41, 60_exceptions.md R260 to R264). -/

namespace Sys2Proof.Machine

/-- The enable bit of TAC (R41). -/
def Timer.enabled (t : Timer) : Bool := t.tac.getLsbD 2

/-- The divisor of TAC's select field (R41). -/
def Timer.divisor (t : Timer) : Nat :=
  match (t.tac.extractLsb' 0 2).toFin with
  | 0 => 1024
  | 1 => 16
  | 2 => 64
  | 3 => 256

/-- `tima_edge` (R261, R262). -/
def Timer.edge (t : Timer) : Timer :=
  if t.tima = 0xFF#8 then { t with tima := t.tma, req := true } else { t with tima := t.tima + 1#8 }

/-- `k` edges, each applied in turn (R261). -/
def Timer.edges (k : Nat) (t : Timer) : Timer :=
  match k with
  | 0 => t
  | k + 1 => Timer.edges k t.edge

/-- `timer_advance(n)` (R260). -/
def Timer.advance (n : Nat) (t : Timer) : Timer :=
  let old := t.counter.toNat
  let t' := { t with counter := BitVec.ofNat 16 (old + n) }
  if t.enabled then t'.edges ((old + n) / t.divisor - old / t.divisor) else t'

/-- DIV reads the high byte of the counter (R38). -/
def Timer.readDiv (t : Timer) : Byte := hiByte t.counter

/-- A write of any value to DIV clears the counter and produces no edge (R38, R263). -/
def Timer.writeDiv (t : Timer) : Timer := { t with counter := 0x0000#16 }

/-- TAC reads `0xF8 | tac` (R41). -/
def Timer.readTac (t : Timer) : Byte := 0xF8#8 ||| t.tac.setWidth 8

/-- A write to TAC stores `v & 0x07` and produces no edge by itself (R41, R263). -/
def Timer.writeTac (v : Byte) (t : Timer) : Timer := { t with tac := v.extractLsb' 0 3 }

end Sys2Proof.Machine
end

