-- ==== Sys2Proof/Machine/Bus.lean ====
section
/-! DEFINITION. The bus router (20_memory.md R60 to R67), OAM DMA (R90 to R93) and the `update` fan-out (60_exceptions.md R240 to
R242). -/

namespace Sys2Proof.Machine

/-! ## Routing -/

/-- What an address names: one row of R60's table. A region carries the offset into its window. -/
inductive Target where
  | romFixed (off : Nat)
  | romSwitched (off : Nat)
  | vram (off : Nat)
  | eram (off : Nat)
  | wram (off : Nat)
  | oam (off : Nat)
  | hram (off : Nat)
  | p1
  | div
  | tima
  | tma
  | tac
  | intFlag
  | lcdc
  | stat
  | scy
  | scx
  | ly
  | lyc
  | dma
  | bgp
  | obp0
  | obp1
  | wy
  | wx
  | bootOff
  | intEnable
  | unmapped
  deriving DecidableEq, Repr

/-- The I/O page 0xFF00 to 0xFF7F by its low byte (R60, 10_state.md R54). -/
def routeIo (k : Nat) : Target :=
  match k with
  | 0x00 => .p1
  | 0x04 => .div
  | 0x05 => .tima
  | 0x06 => .tma
  | 0x07 => .tac
  | 0x0F => .intFlag
  | 0x40 => .lcdc
  | 0x41 => .stat
  | 0x42 => .scy
  | 0x43 => .scx
  | 0x44 => .ly
  | 0x45 => .lyc
  | 0x46 => .dma
  | 0x47 => .bgp
  | 0x48 => .obp0
  | 0x49 => .obp1
  | 0x4A => .wy
  | 0x4B => .wx
  | 0x50 => .bootOff
  | _ => .unmapped

/-- The routing table of R60, the boot row apart (it depends on `booting` and concerns reads only, R61). -/
def route (addr : Word) : Target :=
  let k := addr.toNat
  if k < 0x4000 then .romFixed k
  else if k < 0x8000 then .romSwitched (k - 0x4000)
  else if k < 0xA000 then .vram (k - 0x8000)
  else if k < 0xC000 then .eram (k - 0xA000)
  else if k < 0xE000 then .wram (k - 0xC000)
  else if k < 0xFE00 then .wram (k - 0xE000)
  else if k < 0xFEA0 then .oam (k - 0xFE00)
  else if k < 0xFF00 then .unmapped
  else if k < 0xFF80 then routeIo (k - 0xFF00)
  else if k < 0xFFFF then .hram (k - 0xFF80)
  else .intEnable

/-- The unmapped-access policy for a read (R62). -/
def Bus.readUnmapped (addr : Word) (b : Bus) : Except FaultKind Byte :=
  match b.params.busPolicy with
  | .strict => .error (.busFault addr .read)
  | .lenient => .ok 0xFF#8

/-- The unmapped-access policy for a write (R62). -/
def Bus.writeUnmapped (addr : Word) (b : Bus) : Except FaultKind Bus :=
  match b.params.busPolicy with
  | .strict => .error (.busFault addr .write)
  | .lenient => .ok b

/-- A read of the external RAM window (R77). -/
def Bus.readEram (addr : Word) (off : Nat) (b : Bus) : Except FaultKind Byte :=
  if !b.cart.ramEn then .ok 0xFF#8
  else if b.cart.ramSize.bytes = 0 then .error (.cartRamAbsent addr)
  else .ok (b.cart.eram.read (b.cart.ramOffset off))

/-- A write to the external RAM window (R77). -/
def Bus.writeEram (addr : Word) (off : Nat) (v : Byte) (b : Bus) : Except FaultKind Bus :=
  if !b.cart.ramEn then .ok b
  else if b.cart.ramSize.bytes = 0 then .error (.cartRamAbsent addr)
  else .ok { b with cart := { b.cart with eram := b.cart.eram.write (b.cart.ramOffset off) v } }

/-- `BusRead(a)` (R14, R60). No read changes state (R88). -/
def Bus.read (addr : Word) (b : Bus) : Except FaultKind Byte :=
  match route addr with
  | .romFixed off => .ok (if b.booting && decide (off < 0x100) then b.boot.read off else b.cart.readFixed off)
  | .romSwitched off => .ok (b.cart.readSwitched off)
  | .vram off => .ok (if b.ppu.vramOpen then b.vram.read off else 0xFF#8)
  | .eram off => b.readEram addr off
  | .wram off => .ok (b.wram.read off)
  | .oam off => .ok (if b.ppu.oamOpen then b.oam.read off else 0xFF#8)
  | .hram off => .ok (b.hram.read off)
  | .p1 => .ok b.input.readP1
  | .div => .ok b.timer.readDiv
  | .tima => .ok b.timer.tima
  | .tma => .ok b.timer.tma
  | .tac => .ok b.timer.readTac
  | .intFlag => .ok b.intFlag
  | .lcdc => .ok b.ppu.lcdc
  | .stat => .ok b.ppu.readStat
  | .scy => .ok b.ppu.scy
  | .scx => .ok b.ppu.scx
  | .ly => .ok b.ppu.readLy
  | .lyc => .ok b.ppu.lyc
  | .dma => b.readUnmapped addr
  | .bgp => .ok b.ppu.bgp
  | .obp0 => .ok b.ppu.obp0
  | .obp1 => .ok b.ppu.obp1
  | .wy => .ok b.ppu.wy
  | .wx => .ok b.ppu.wx
  | .bootOff => b.readUnmapped addr
  | .intEnable => .ok b.intEnable
  | .unmapped => b.readUnmapped addr

/-! ## OAM DMA -/

/-- One byte of OAM stored through its gate (R67): dropped unless the mode is 0 or 1. -/
def Bus.storeOam (off : Nat) (v : Byte) (b : Bus) : Bus :=
  if b.ppu.oamOpen then { b with oam := b.oam.write off v } else b

/-- The copy loop of R90 for the last `count` of the 160 bytes: byte `i = 160 - count` first. The writes to 0xFE00 + i are routed
to OAM, whose gate applies (R92). -/
def Bus.dmaLoop (page : Byte) (count : Nat) (b : Bus) : Except FaultKind Bus :=
  match count with
  | 0 => .ok b
  | count + 1 =>
    match b.read (wordOf page (BitVec.ofNat 8 (159 - count))) with
    | .error kind => .error kind
    | .ok v => Bus.dmaLoop page count (b.storeOam (159 - count) v)

/-- A write of a page to 0xFF46 (R90, R91). It adds no cycles (R93). -/
def Bus.dma (page : Byte) (b : Bus) : Except FaultKind Bus :=
  if page.toNat < 0x80 ∨ 0xDF < page.toNat then .error (.dmaSource page) else b.dmaLoop page 160

/-! ## Writing -/

/-- `BusWrite(a, v)` (R14, R60, R89). -/
def Bus.write (addr : Word) (v : Byte) (b : Bus) : Except FaultKind Bus :=
  match route addr with
  | .romFixed off => .ok { b with cart := b.cart.writeLatch off v }
  | .romSwitched off => .ok { b with cart := b.cart.writeLatch (0x4000 + off) v }
  | .vram off => .ok (if b.ppu.vramOpen then { b with vram := b.vram.write off v } else b)
  | .eram off => b.writeEram addr off v
  | .wram off => .ok { b with wram := b.wram.write off v }
  | .oam off => .ok (b.storeOam off v)
  | .hram off => .ok { b with hram := b.hram.write off v }
  | .p1 => .ok { b with input := b.input.writeP1 v }
  | .div => .ok { b with timer := b.timer.writeDiv }
  | .tima => .ok { b with timer := { b.timer with tima := v } }
  | .tma => .ok { b with timer := { b.timer with tma := v } }
  | .tac => .ok { b with timer := b.timer.writeTac v }
  | .intFlag => .ok { b with intFlag := v }
  | .lcdc => .ok { b with ppu := b.ppu.writeLcdc b.params.lcdGates v }
  | .stat => .ok { b with ppu := b.ppu.writeStat v }
  | .scy => .ok { b with ppu := { b.ppu with scy := v } }
  | .scx => .ok { b with ppu := { b.ppu with scx := v } }
  | .ly => .ok b
  | .lyc => .ok { b with ppu := b.ppu.writeLyc v }
  | .dma => b.dma v
  | .bgp => .ok { b with ppu := { b.ppu with bgp := v } }
  | .obp0 => .ok { b with ppu := { b.ppu with obp0 := v } }
  | .obp1 => .ok { b with ppu := { b.ppu with obp1 := v } }
  | .wy => .ok { b with ppu := { b.ppu with wy := v } }
  | .wx => .ok { b with ppu := { b.ppu with wx := v } }
  | .bootOff => .ok { b with booting := false }
  | .intEnable => .ok { b with intEnable := v }
  | .unmapped => b.writeUnmapped addr

/-! ## The update fan-out -/

/-- `aggregate()` (R242). -/
def Bus.aggregate (b : Bus) : Bus :=
  { b with
    intFlag := b.intFlag ||| (0#3 ++ BitVec.ofBool b.input.req ++ 0#1 ++ BitVec.ofBool b.timer.req
      ++ BitVec.ofBool b.ppu.reqStat ++ BitVec.ofBool b.ppu.reqVblank)
    ppu := { b.ppu with reqVblank := false, reqStat := false }
    timer := { b.timer with req := false }
    input := { b.input with req := false } }

/-- The advances of `update(n)` in order (R240). The cartridge's and the input's change nothing (R78, R286). -/
def Bus.advance (n : Nat) (b : Bus) : Bus :=
  { b with ppu := b.ppu.advance b.params.lcdGates n, timer := b.timer.advance n }

/-- `update(n)` (R240): the advances, then the aggregation. -/
def Bus.update (n : Nat) (b : Bus) : Bus := (b.advance n).aggregate

end Sys2Proof.Machine
end

