-- ==== Sys2Proof/Machine/Ops.lean ====
section
/-! DEFINITION. The named operations over registers and the bus that every meaning is written with (00_scope.md R13 to R16), and the
taking of an interrupt with the return from it (60_exceptions.md R253, R258). An operation that may stop takes what follows it as
its last argument, so that nothing after a fault happens (R237). -/

namespace Sys2Proof.Machine

/-! ## Registers and pairs -/

/-- `x[r]` (R13). -/
def Cpu.reg (r : Reg8) (c : Cpu) : Byte :=
  match r with
  | .b => c.b
  | .c => c.c
  | .d => c.d
  | .e => c.e
  | .h => c.h
  | .l => c.l
  | .a => c.a

/-- `x[r] <- v` (R13). -/
def Cpu.setReg (r : Reg8) (v : Byte) (c : Cpu) : Cpu :=
  match r with
  | .b => { c with b := v }
  | .c => { c with c := v }
  | .d => { c with d := v }
  | .e => { c with e := v }
  | .h => { c with h := v }
  | .l => { c with l := v }
  | .a => { c with a := v }

/-- F as a byte: `{fZ, fN, fH, fC, 0b0000}` (R22). -/
def Flags.toByte (f : Flags) : Byte :=
  BitVec.ofBool f.z ++ BitVec.ofBool f.n ++ BitVec.ofBool f.h ++ BitVec.ofBool f.c ++ 0#4

/-- The flags of a byte written to F: the low nibble is dropped (R22, R145). -/
def Flags.ofByte (v : Byte) : Flags :=
  { z := v.getLsbD 7, n := v.getLsbD 6, h := v.getLsbD 5, c := v.getLsbD 4 }

/-- `x[BC]` (R21). -/
def Cpu.bc (c : Cpu) : Word := wordOf c.b c.c

/-- `x[DE]` (R21). -/
def Cpu.de (c : Cpu) : Word := wordOf c.d c.e

/-- `x[HL]` (R21). -/
def Cpu.hl (c : Cpu) : Word := wordOf c.h c.l

/-- `x[AF]` (R21). -/
def Cpu.af (c : Cpu) : Word := wordOf c.a c.f.toByte

/-- `x[HL] <- v` (R21). -/
def Cpu.setHl (v : Word) (c : Cpu) : Cpu := { c with h := hiByte v, l := loByte v }

/-- `x[rp]` (R103). -/
def Cpu.pair (p : Pair) (c : Cpu) : Word :=
  match p with
  | .bc => c.bc
  | .de => c.de
  | .hl => c.hl
  | .sp => c.sp

/-- `x[rp] <- v` (R103, R21). -/
def Cpu.setPair (p : Pair) (v : Word) (c : Cpu) : Cpu :=
  match p with
  | .bc => { c with b := hiByte v, c := loByte v }
  | .de => { c with d := hiByte v, e := loByte v }
  | .hl => c.setHl v
  | .sp => { c with sp := v }

/-- `x[rp2]` (R103). -/
def Cpu.stackPair (p : StackPair) (c : Cpu) : Word :=
  match p with
  | .bc => c.bc
  | .de => c.de
  | .hl => c.hl
  | .af => c.af

/-- `x[rp2] <- v`; AF stores `v & 0xFFF0` (R103, R21, R145). -/
def Cpu.setStackPair (p : StackPair) (v : Word) (c : Cpu) : Cpu :=
  match p with
  | .bc => { c with b := hiByte v, c := loByte v }
  | .de => { c with d := hiByte v, e := loByte v }
  | .hl => c.setHl v
  | .af => { c with a := hiByte v, f := Flags.ofByte (loByte v) }

/-- The state with the CPU replaced. -/
def State.withCpu (c : Cpu) (s : State) : State := { s with cpu := c }

/-- The state with the bus replaced. -/
def State.withBus (b : Bus) (s : State) : State := { s with bus := b }

/-- `pc <- v`. -/
def State.setPc (v : Word) (s : State) : State := s.withCpu { s.cpu with pc := v }

/-- `x[SP] <- v`. -/
def State.setSp (v : Word) (s : State) : State := s.withCpu { s.cpu with sp := v }

/-! ## Cycles -/

/-- `tick(n)` (R16). -/
def State.tick (n : Nat) (s : State) : State := { s with tally := s.tally + n }

/-- The `tick(h - a)` that an instruction adds under `TIMING = Hardware` (R315). -/
def State.tickHw (n : Nat) (s : State) : State :=
  match s.bus.params.timing with
  | .access => s
  | .hardware => s.tick n

/-! ## Faults -/

/-- A fault of this kind, with the state it leaves (R237). -/
def FaultKind.toFault (kind : FaultKind) (final : State) : Fault :=
  match kind with
  | .illegalOpcode addr op => .illegalOpcode addr op final
  | .busFault addr access => .busFault addr access final
  | .cartRamAbsent addr => .cartRamAbsent addr final
  | .dmaSource v => .dmaSource v final

/-- `raise Fault(kind, info)` (R16, R29, R236). -/
def raise (kind : FaultKind) (s : State) : Out := .fault (kind.toFault { s with status := .faulted kind })

/-! ## Bus accesses -/

/-- `MemRead(addr, 1)` (R14), then the rest with the byte. -/
def readThen (addr : Word) (s : State) (rest : Byte → State → Out) : Out :=
  match s.bus.read addr with
  | .error kind => raise kind s
  | .ok v => rest v (s.tick 4)

/-- `MemWrite(addr, 1, v)` (R14), then the rest. -/
def writeThen (addr : Word) (v : Byte) (s : State) (rest : State → Out) : Out :=
  match s.bus.write addr v with
  | .error kind => raise kind s
  | .ok b => rest ((s.withBus b).tick 4)

/-- `Fetch8()` (R15), then the rest with the byte. -/
def fetch8Then (s : State) (rest : Byte → State → Out) : Out :=
  readThen s.cpu.pc s fun v s => rest v (s.setPc (s.cpu.pc + 1#16))

/-- `Fetch16()` (R15), then the rest with the word. -/
def fetch16Then (s : State) (rest : Word → State → Out) : Out :=
  fetch8Then s fun lo s => fetch8Then s fun hi s => rest (wordOf hi lo) s

/-- `Push16(v)` (R15), then the rest. -/
def push16Then (v : Word) (s : State) (rest : State → Out) : Out :=
  writeThen (s.cpu.sp - 1#16) (hiByte v) (s.setSp (s.cpu.sp - 1#16)) fun s =>
    writeThen (s.cpu.sp - 1#16) (loByte v) (s.setSp (s.cpu.sp - 1#16)) rest

/-- `Pop16()` (R15), then the rest with the word. -/
def pop16Then (s : State) (rest : Word → State → Out) : Out :=
  readThen s.cpu.sp s fun lo s =>
    readThen (s.cpu.sp + 1#16) (s.setSp (s.cpu.sp + 1#16)) fun hi s =>
      rest (wordOf hi lo) (s.setSp (s.cpu.sp + 1#16))

/-! ## Interrupts -/

/-- The vector of an interrupt source, `0x0040 + 8 × i` (R32, R250, R253). -/
def vector (i : Fin 5) : Word := BitVec.ofNat 16 (0x40 + 8 * i.val)

/-- The state in which service pushes pc (R253): the IF bit, IME and `halted` cleared, `ei_pending` cleared (assumption log 17), the
tally begun anew for the service cost. -/
def State.acknowledge (i : Fin 5) (s : State) : State :=
  { s with
    cpu := { s.cpu with ime := false, halted := false, eiPending := 0#2 }
    bus := { s.bus with intFlag := s.bus.intFlag &&& ~~~(1#8 <<< i.val) }
    tally := 0 }

/-- `service(i)` (R253): taking an interrupt. In the state handed on, pc is the vector and the tally is the service cost: 8 for the
push, 8 for the two internal machine cycles, and 4 more under `Hardware` (R254). -/
def serviceThen (i : Fin 5) (s : State) (rest : State → Out) : Out :=
  push16Then s.cpu.pc (s.acknowledge i) fun s => rest (((s.setPc (vector i)).tick 8).tickHw 4)

/-- The return from an interrupt (R211, R258): pc popped, IME set, `ei_pending` cleared. -/
def returnFromInterrupt (s : State) : Out :=
  pop16Then s fun v s => .next ((s.withCpu { s.cpu with pc := v, ime := true, eiPending := 0#2 }).tickHw 4)

end Sys2Proof.Machine
end

