-- ==== Sys2Proof/Machine/Flags.lean ====
section
/-! DEFINITION. The results and flags of the arithmetic, logic, rotate, shift and bit operations (42_alu8.md, 43_alu16.md,
44_rotate_shift.md, 45_bit.md), as functions of their operands. Sums and differences are taken over the naturals and narrowed at
the end (00_scope.md R12). -/

namespace Sys2Proof.Machine

/-- Whether a byte is zero, the rule of fZ (R23). -/
def isZero (v : Byte) : Bool := v == 0x00#8

/-! ## Eight-bit arithmetic and logic -/

/-- ADD and ADC (R151, R152): `a + b + c`. -/
def add8 (a b : Byte) (c : Bool) : Byte × Flags :=
  let r := a.toNat + b.toNat + c.toNat
  (BitVec.ofNat 8 r,
    { z := isZero (BitVec.ofNat 8 r), n := false
      h := decide (0xF < a.toNat % 16 + b.toNat % 16 + c.toNat), c := decide (0xFF < r) })

/-- SUB, SBC and CP (R153, R154, R158): `a - b - c`. -/
def sub8 (a b : Byte) (c : Bool) : Byte × Flags :=
  let r := a - b - (BitVec.ofBool c).setWidth 8
  (r,
    { z := isZero r, n := true
      h := decide (a.toNat % 16 < b.toNat % 16 + c.toNat), c := decide (a.toNat < b.toNat + c.toNat) })

/-- The flags of AND, XOR and OR (R155 to R157): H is 1 for AND alone. -/
def logicFlags (r : Byte) (h : Bool) : Flags := { z := isZero r, n := false, h := h, c := false }

/-- The new A and flags of an ALU operation (R151 to R158) on A, the source and the old flags. CP keeps A. -/
def alu8 (op : AluOp) (a b : Byte) (f : Flags) : Byte × Flags :=
  match op with
  | .add => add8 a b false
  | .adc => add8 a b f.c
  | .sub => sub8 a b false
  | .sbc => sub8 a b f.c
  | .and => (a &&& b, logicFlags (a &&& b) true)
  | .xor => (a ^^^ b, logicFlags (a ^^^ b) false)
  | .or => (a ||| b, logicFlags (a ||| b) false)
  | .cp => (a, (sub8 a b false).2)

/-- The flags of INC on the old value (R159); C is unchanged. -/
def incFlags (v : Byte) (f : Flags) : Flags :=
  { z := isZero (v + 1#8), n := false, h := v.toNat % 16 == 0xF, c := f.c }

/-- The flags of DEC on the old value (R160); C is unchanged. -/
def decFlags (v : Byte) (f : Flags) : Flags :=
  { z := isZero (v - 1#8), n := true, h := v.toNat % 16 == 0, c := f.c }

/-- DAA's carry out (R164). -/
def daaCarry (a : Byte) (f : Flags) : Bool := f.c || (!f.n && decide (0x99 < a.toNat))

/-- DAA's new A (R164). -/
def daaValue (a : Byte) (f : Flags) : Byte :=
  if f.n then
    let a1 := if f.c then a - 0x60#8 else a
    if f.h then a1 - 0x06#8 else a1
  else
    let a1 := if f.c || decide (0x99 < a.toNat) then a + 0x60#8 else a
    if f.h || decide (0x9 < a.toNat % 16) then a1 + 0x06#8 else a1

/-- DAA's flags (R164). -/
def daaFlags (a : Byte) (f : Flags) : Flags :=
  { z := isZero (daaValue a f), n := f.n, h := false, c := daaCarry a f }

/-! ## Sixteen-bit arithmetic -/

/-- The flags of ADD HL,rr (R172): H out of bit 11, C out of bit 15, Z unchanged. -/
def addHlFlags (a b : Word) (f : Flags) : Flags :=
  { z := f.z, n := false
    h := decide (0xFFF < a.toNat % 0x1000 + b.toNat % 0x1000), c := decide (0xFFFF < a.toNat + b.toNat) }

/-- The flags of ADD SP,e and LD HL,SP+e (R173, R174): both carries on the low byte, `e` unsigned. -/
def spDispFlags (sp : Word) (e : Byte) : Flags :=
  { z := false, n := false
    h := decide (0xF < sp.toNat % 16 + e.toNat % 16), c := decide (0xFF < sp.toNat % 256 + e.toNat) }

/-! ## Rotates, shifts and bits -/

/-- The result of a rotate or shift (R184 to R191) of `v` with the old carry. -/
def shiftValue (op : ShiftOp) (v : Byte) (c : Bool) : Byte :=
  match op with
  | .rlc => v.extractLsb' 0 7 ++ v.extractLsb' 7 1
  | .rrc => v.extractLsb' 0 1 ++ v.extractLsb' 1 7
  | .rl => v.extractLsb' 0 7 ++ BitVec.ofBool c
  | .rr => BitVec.ofBool c ++ v.extractLsb' 1 7
  | .sla => v.extractLsb' 0 7 ++ 0#1
  | .sra => v.extractLsb' 7 1 ++ v.extractLsb' 1 7
  | .swap => v.extractLsb' 0 4 ++ v.extractLsb' 4 4
  | .srl => 0#1 ++ v.extractLsb' 1 7

/-- The carry out of a rotate or shift (R184 to R191). -/
def shiftCarry (op : ShiftOp) (v : Byte) : Bool :=
  match op with
  | .rlc => v.getLsbD 7
  | .rrc => v.getLsbD 0
  | .rl => v.getLsbD 7
  | .rr => v.getLsbD 0
  | .sla => v.getLsbD 7
  | .sra => v.getLsbD 0
  | .swap => false
  | .srl => v.getLsbD 0

/-- The flags of an extended rotate or shift (R184 to R191). -/
def shiftFlags (op : ShiftOp) (v : Byte) (c : Bool) : Flags :=
  { z := isZero (shiftValue op v c), n := false, h := false, c := shiftCarry op v }

/-- The flags of RLCA, RRCA, RLA and RRA (R180 to R183): Z is 0 whatever the result. -/
def accShiftFlags (op : ShiftOp) (v : Byte) : Flags :=
  { z := false, n := false, h := false, c := shiftCarry op v }

/-- The flags of BIT (R195); C is unchanged. -/
def bitFlags (b : Fin 8) (v : Byte) (f : Flags) : Flags :=
  { z := !v.getLsbD b.val, n := false, h := true, c := f.c }

/-- The result of RES (R196). -/
def resBit (b : Fin 8) (v : Byte) : Byte := v &&& ~~~(1#8 <<< b.val)

/-- The result of SET (R197). -/
def setBit (b : Fin 8) (v : Byte) : Byte := v ||| (1#8 <<< b.val)

end Sys2Proof.Machine
end

