-- ==== Sys2Proof/Machine/Operands.lean ====
section
/-! DEFINITION. The operand forms: the operand code `r` with (HL) at 110 (30_encoding.md R102), the condition field (R104, R200) and
the I/O-page addresses (R108). -/

namespace Sys2Proof.Machine

/-- `reg8(c)` (R102): the operand's value, read once, then the rest. -/
def readOperandThen (o : Operand8) (s : State) (rest : Byte → State → Out) : Out :=
  match o with
  | .reg r => rest (s.cpu.reg r) s
  | .atHl => readThen s.cpu.hl s rest

/-- `reg8(c) <- v` (R102), then the rest. -/
def writeOperandThen (o : Operand8) (v : Byte) (s : State) (rest : State → Out) : Out :=
  match o with
  | .reg r => rest (s.withCpu (s.cpu.setReg r v))
  | .atHl => writeThen s.cpu.hl v s rest

/-- `cond(cc)` (R200). -/
def condHolds (cc : Cond) (f : Flags) : Bool :=
  match cc with
  | .nz => !f.z
  | .z => f.z
  | .nc => !f.c
  | .c => f.c

/-- The I/O-page address `0xFF00 + n` of LDH and LD (C) (R108). -/
def ioAddr (n : Byte) : Word := wordOf 0xFF#8 n

end Sys2Proof.Machine
end

