-- ==== Sys2Proof/Machine/Alu8.lean ====
section
/-! DEFINITION. The 8-bit arithmetic and logic (42_alu8.md R150 to R167). -/

namespace Sys2Proof.Machine

/-! ## Shared shapes -/

/-- A and F written together. -/
def Cpu.setAF (p : Byte × Flags) (c : Cpu) : Cpu := { c with a := p.1, f := p.2 }

/-- An ALU operation with a register or memory source, read once before any register changes (R150 to R158). -/
def aluOperand (op : AluOp) (src : Operand8) (s : State) : Out :=
  readOperandThen src s fun v s => .next (s.withCpu (s.cpu.setAF (alu8 op s.cpu.a v s.cpu.f)))

/-- An ALU operation with an immediate source (R150 to R158). -/
def aluImm (op : AluOp) (n : Byte) (s : State) : Out :=
  .next (s.withCpu (s.cpu.setAF (alu8 op s.cpu.a n s.cpu.f)))

/-- The flags replaced. -/
def State.setFlags (f : Flags) (s : State) : State := s.withCpu { s.cpu with f := f }

/-- A read-modify-write of one operand: the flags are written last, so a fault on the write leaves them (R162, R192). -/
def modifyOperand (o : Operand8) (value : Byte → Byte) (flags : Byte → Flags) (s : State) : Out :=
  readOperandThen o s fun v s => writeOperandThen o (value v) s fun s => .next (s.setFlags (flags v))

/-- INC r (R159) and INC (HL) (R162). -/
def incOperand (o : Operand8) (s : State) : Out :=
  modifyOperand o (fun v => v + 1#8) (fun v => incFlags v s.cpu.f) s

/-- DEC r (R160) and DEC (HL) (R163). -/
def decOperand (o : Operand8) (s : State) : Out :=
  modifyOperand o (fun v => v - 1#8) (fun v => decFlags v s.cpu.f) s

/-- DAA (R164). -/
def decimalAdjust (s : State) : Out :=
  .next (s.withCpu (s.cpu.setAF (daaValue s.cpu.a s.cpu.f, daaFlags s.cpu.a s.cpu.f)))

/-- CPL (R165). -/
def complementA (s : State) : Out :=
  .next (s.withCpu (s.cpu.setAF (~~~s.cpu.a, { s.cpu.f with n := true, h := true })))

/-- SCF (R166) with `c = true` and CCF (R167) with the old carry complemented. -/
def writeCarry (c : Bool) (s : State) : Out :=
  .next (s.setFlags { s.cpu.f with n := false, h := false, c := c })

/-! ## The instructions -/

/-- `ADD A,B` (R151). -/
def execAddAB (s : State) : Out := aluOperand .add (.reg .b) s

/-- `ADD A,C` (R151). -/
def execAddAC (s : State) : Out := aluOperand .add (.reg .c) s

/-- `ADD A,D` (R151). -/
def execAddAD (s : State) : Out := aluOperand .add (.reg .d) s

/-- `ADD A,E` (R151). -/
def execAddAE (s : State) : Out := aluOperand .add (.reg .e) s

/-- `ADD A,H` (R151). -/
def execAddAH (s : State) : Out := aluOperand .add (.reg .h) s

/-- `ADD A,L` (R151). -/
def execAddAL (s : State) : Out := aluOperand .add (.reg .l) s

/-- `ADD A,(HL)` (R151). -/
def execAddAAtHl (s : State) : Out := aluOperand .add .atHl s

/-- `ADD A,A` (R151). -/
def execAddAA (s : State) : Out := aluOperand .add (.reg .a) s

/-- `ADD A,n` (R151). -/
def execAddAN (n : Byte) (s : State) : Out := aluImm .add n s

/-- `ADC A,B` (R152). -/
def execAdcAB (s : State) : Out := aluOperand .adc (.reg .b) s

/-- `ADC A,C` (R152). -/
def execAdcAC (s : State) : Out := aluOperand .adc (.reg .c) s

/-- `ADC A,D` (R152). -/
def execAdcAD (s : State) : Out := aluOperand .adc (.reg .d) s

/-- `ADC A,E` (R152). -/
def execAdcAE (s : State) : Out := aluOperand .adc (.reg .e) s

/-- `ADC A,H` (R152). -/
def execAdcAH (s : State) : Out := aluOperand .adc (.reg .h) s

/-- `ADC A,L` (R152). -/
def execAdcAL (s : State) : Out := aluOperand .adc (.reg .l) s

/-- `ADC A,(HL)` (R152). -/
def execAdcAAtHl (s : State) : Out := aluOperand .adc .atHl s

/-- `ADC A,A` (R152). -/
def execAdcAA (s : State) : Out := aluOperand .adc (.reg .a) s

/-- `ADC A,n` (R152). -/
def execAdcAN (n : Byte) (s : State) : Out := aluImm .adc n s

/-- `SUB B` (R153). -/
def execSubB (s : State) : Out := aluOperand .sub (.reg .b) s

/-- `SUB C` (R153). -/
def execSubC (s : State) : Out := aluOperand .sub (.reg .c) s

/-- `SUB D` (R153). -/
def execSubD (s : State) : Out := aluOperand .sub (.reg .d) s

/-- `SUB E` (R153). -/
def execSubE (s : State) : Out := aluOperand .sub (.reg .e) s

/-- `SUB H` (R153). -/
def execSubH (s : State) : Out := aluOperand .sub (.reg .h) s

/-- `SUB L` (R153). -/
def execSubL (s : State) : Out := aluOperand .sub (.reg .l) s

/-- `SUB (HL)` (R153). -/
def execSubAtHl (s : State) : Out := aluOperand .sub .atHl s

/-- `SUB A` (R153). -/
def execSubA (s : State) : Out := aluOperand .sub (.reg .a) s

/-- `SUB n` (R153). -/
def execSubN (n : Byte) (s : State) : Out := aluImm .sub n s

/-- `SBC A,B` (R154). -/
def execSbcAB (s : State) : Out := aluOperand .sbc (.reg .b) s

/-- `SBC A,C` (R154). -/
def execSbcAC (s : State) : Out := aluOperand .sbc (.reg .c) s

/-- `SBC A,D` (R154). -/
def execSbcAD (s : State) : Out := aluOperand .sbc (.reg .d) s

/-- `SBC A,E` (R154). -/
def execSbcAE (s : State) : Out := aluOperand .sbc (.reg .e) s

/-- `SBC A,H` (R154). -/
def execSbcAH (s : State) : Out := aluOperand .sbc (.reg .h) s

/-- `SBC A,L` (R154). -/
def execSbcAL (s : State) : Out := aluOperand .sbc (.reg .l) s

/-- `SBC A,(HL)` (R154). -/
def execSbcAAtHl (s : State) : Out := aluOperand .sbc .atHl s

/-- `SBC A,A` (R154). -/
def execSbcAA (s : State) : Out := aluOperand .sbc (.reg .a) s

/-- `SBC A,n` (R154). -/
def execSbcAN (n : Byte) (s : State) : Out := aluImm .sbc n s

/-- `AND B` (R155). -/
def execAndB (s : State) : Out := aluOperand .and (.reg .b) s

/-- `AND C` (R155). -/
def execAndC (s : State) : Out := aluOperand .and (.reg .c) s

/-- `AND D` (R155). -/
def execAndD (s : State) : Out := aluOperand .and (.reg .d) s

/-- `AND E` (R155). -/
def execAndE (s : State) : Out := aluOperand .and (.reg .e) s

/-- `AND H` (R155). -/
def execAndH (s : State) : Out := aluOperand .and (.reg .h) s

/-- `AND L` (R155). -/
def execAndL (s : State) : Out := aluOperand .and (.reg .l) s

/-- `AND (HL)` (R155). -/
def execAndAtHl (s : State) : Out := aluOperand .and .atHl s

/-- `AND A` (R155). -/
def execAndA (s : State) : Out := aluOperand .and (.reg .a) s

/-- `AND n` (R155). -/
def execAndN (n : Byte) (s : State) : Out := aluImm .and n s

/-- `XOR B` (R156). -/
def execXorB (s : State) : Out := aluOperand .xor (.reg .b) s

/-- `XOR C` (R156). -/
def execXorC (s : State) : Out := aluOperand .xor (.reg .c) s

/-- `XOR D` (R156). -/
def execXorD (s : State) : Out := aluOperand .xor (.reg .d) s

/-- `XOR E` (R156). -/
def execXorE (s : State) : Out := aluOperand .xor (.reg .e) s

/-- `XOR H` (R156). -/
def execXorH (s : State) : Out := aluOperand .xor (.reg .h) s

/-- `XOR L` (R156). -/
def execXorL (s : State) : Out := aluOperand .xor (.reg .l) s

/-- `XOR (HL)` (R156). -/
def execXorAtHl (s : State) : Out := aluOperand .xor .atHl s

/-- `XOR A` (R156). -/
def execXorA (s : State) : Out := aluOperand .xor (.reg .a) s

/-- `XOR n` (R156). -/
def execXorN (n : Byte) (s : State) : Out := aluImm .xor n s

/-- `OR B` (R157). -/
def execOrB (s : State) : Out := aluOperand .or (.reg .b) s

/-- `OR C` (R157). -/
def execOrC (s : State) : Out := aluOperand .or (.reg .c) s

/-- `OR D` (R157). -/
def execOrD (s : State) : Out := aluOperand .or (.reg .d) s

/-- `OR E` (R157). -/
def execOrE (s : State) : Out := aluOperand .or (.reg .e) s

/-- `OR H` (R157). -/
def execOrH (s : State) : Out := aluOperand .or (.reg .h) s

/-- `OR L` (R157). -/
def execOrL (s : State) : Out := aluOperand .or (.reg .l) s

/-- `OR (HL)` (R157). -/
def execOrAtHl (s : State) : Out := aluOperand .or .atHl s

/-- `OR A` (R157). -/
def execOrA (s : State) : Out := aluOperand .or (.reg .a) s

/-- `OR n` (R157). -/
def execOrN (n : Byte) (s : State) : Out := aluImm .or n s

/-- `CP B` (R158). -/
def execCpB (s : State) : Out := aluOperand .cp (.reg .b) s

/-- `CP C` (R158). -/
def execCpC (s : State) : Out := aluOperand .cp (.reg .c) s

/-- `CP D` (R158). -/
def execCpD (s : State) : Out := aluOperand .cp (.reg .d) s

/-- `CP E` (R158). -/
def execCpE (s : State) : Out := aluOperand .cp (.reg .e) s

/-- `CP H` (R158). -/
def execCpH (s : State) : Out := aluOperand .cp (.reg .h) s

/-- `CP L` (R158). -/
def execCpL (s : State) : Out := aluOperand .cp (.reg .l) s

/-- `CP (HL)` (R158). -/
def execCpAtHl (s : State) : Out := aluOperand .cp .atHl s

/-- `CP A` (R158). -/
def execCpA (s : State) : Out := aluOperand .cp (.reg .a) s

/-- `CP n` (R158). -/
def execCpN (n : Byte) (s : State) : Out := aluImm .cp n s

/-- `INC B` (R159). -/
def execIncB (s : State) : Out := incOperand (.reg .b) s

/-- `INC C` (R159). -/
def execIncC (s : State) : Out := incOperand (.reg .c) s

/-- `INC D` (R159). -/
def execIncD (s : State) : Out := incOperand (.reg .d) s

/-- `INC E` (R159). -/
def execIncE (s : State) : Out := incOperand (.reg .e) s

/-- `INC H` (R159). -/
def execIncH (s : State) : Out := incOperand (.reg .h) s

/-- `INC L` (R159). -/
def execIncL (s : State) : Out := incOperand (.reg .l) s

/-- `INC A` (R159). -/
def execIncA (s : State) : Out := incOperand (.reg .a) s

/-- `DEC B` (R160). -/
def execDecB (s : State) : Out := decOperand (.reg .b) s

/-- `DEC C` (R160). -/
def execDecC (s : State) : Out := decOperand (.reg .c) s

/-- `DEC D` (R160). -/
def execDecD (s : State) : Out := decOperand (.reg .d) s

/-- `DEC E` (R160). -/
def execDecE (s : State) : Out := decOperand (.reg .e) s

/-- `DEC H` (R160). -/
def execDecH (s : State) : Out := decOperand (.reg .h) s

/-- `DEC L` (R160). -/
def execDecL (s : State) : Out := decOperand (.reg .l) s

/-- `DEC A` (R160). -/
def execDecA (s : State) : Out := decOperand (.reg .a) s

/-- `INC (HL)` (R162). -/
def execIncAtHl (s : State) : Out := incOperand .atHl s

/-- `DEC (HL)` (R163). -/
def execDecAtHl (s : State) : Out := decOperand .atHl s

/-- `DAA` (R164). -/
def execDaa (s : State) : Out := decimalAdjust s

/-- `CPL` (R165). -/
def execCplA (s : State) : Out := complementA s

/-- `SCF` (R166). -/
def execScf (s : State) : Out := writeCarry true s

/-- `CCF` (R167). -/
def execCcf (s : State) : Out := writeCarry (!s.cpu.f.c) s

end Sys2Proof.Machine
end

