-- ==== Sys2Proof/Machine/Alu16.lean ====
section
/-! DEFINITION. The 16-bit arithmetic (43_alu16.md R170 to R174). -/

namespace Sys2Proof.Machine

/-! ## Shared shapes -/

/-- `x[rr] <- x[rr] + delta`, no flag written (R170, R171). -/
def addToPair (rr : Pair) (delta : Word) (s : State) : Out :=
  .next ((s.withCpu (s.cpu.setPair rr (s.cpu.pair rr + delta))).tickHw 4)

/-- ADD HL,rr (R172). -/
def addToHl (rr : Pair) (s : State) : Out :=
  .next ((s.withCpu { s.cpu.setHl (s.cpu.hl + s.cpu.pair rr) with f := addHlFlags s.cpu.hl (s.cpu.pair rr) s.cpu.f }).tickHw 4)

/-- ADD SP,e (R173). -/
def addToSp (e : Byte) (s : State) : Out :=
  .next ((s.withCpu { s.cpu with sp := s.cpu.sp + sext16 e, f := spDispFlags s.cpu.sp e }).tickHw 8)

/-- LD HL,SP+e (R174). -/
def loadHlSpDisp (e : Byte) (s : State) : Out :=
  .next ((s.withCpu { s.cpu.setHl (s.cpu.sp + sext16 e) with f := spDispFlags s.cpu.sp e }).tickHw 4)

/-! ## The instructions -/

/-- `INC BC` (R170). -/
def execIncBc (s : State) : Out := addToPair .bc 1#16 s

/-- `INC DE` (R170). -/
def execIncDe (s : State) : Out := addToPair .de 1#16 s

/-- `INC HL` (R170). -/
def execIncHl (s : State) : Out := addToPair .hl 1#16 s

/-- `INC SP` (R170). -/
def execIncSp (s : State) : Out := addToPair .sp 1#16 s

/-- `DEC BC` (R171). -/
def execDecBc (s : State) : Out := addToPair .bc (-1#16) s

/-- `DEC DE` (R171). -/
def execDecDe (s : State) : Out := addToPair .de (-1#16) s

/-- `DEC HL` (R171). -/
def execDecHl (s : State) : Out := addToPair .hl (-1#16) s

/-- `DEC SP` (R171). -/
def execDecSp (s : State) : Out := addToPair .sp (-1#16) s

/-- `ADD HL,BC` (R172). -/
def execAddHlBc (s : State) : Out := addToHl .bc s

/-- `ADD HL,DE` (R172). -/
def execAddHlDe (s : State) : Out := addToHl .de s

/-- `ADD HL,HL` (R172). -/
def execAddHlHl (s : State) : Out := addToHl .hl s

/-- `ADD HL,SP` (R172). -/
def execAddHlSp (s : State) : Out := addToHl .sp s

/-- `ADD SP,e` (R173). -/
def execAddSpDisp (e : Byte) (s : State) : Out := addToSp e s

/-- `LD HL,SP+e` (R174). -/
def execLdHlSpDisp (e : Byte) (s : State) : Out := loadHlSpDisp e s

end Sys2Proof.Machine
end

