-- ==== Sys2Proof/Machine/Rotate.lean ====
section
/-! DEFINITION. The rotates and shifts (44_rotate_shift.md R180 to R192). -/

namespace Sys2Proof.Machine

/-! ## Shared shapes -/

/-- RLCA, RRCA, RLA and RRA (R180 to R183). -/
def shiftA (op : ShiftOp) (s : State) : Out :=
  .next (s.withCpu (s.cpu.setAF (shiftValue op s.cpu.a s.cpu.f.c, accShiftFlags op s.cpu.a)))

/-- An extended rotate or shift of a register or of the byte at HL (R184 to R192). -/
def shiftOperand (op : ShiftOp) (o : Operand8) (s : State) : Out :=
  modifyOperand o (fun v => shiftValue op v s.cpu.f.c) (fun v => shiftFlags op v s.cpu.f.c) s

/-! ## The instructions -/

/-- `RLCA` (R180). -/
def execRlca (s : State) : Out := shiftA .rlc s

/-- `RRCA` (R181). -/
def execRrca (s : State) : Out := shiftA .rrc s

/-- `RLA` (R182). -/
def execRla (s : State) : Out := shiftA .rl s

/-- `RRA` (R183). -/
def execRra (s : State) : Out := shiftA .rr s

/-- `RLC B` (R184). -/
def execCbRlcB (s : State) : Out := shiftOperand .rlc (.reg .b) s

/-- `RLC C` (R184). -/
def execCbRlcC (s : State) : Out := shiftOperand .rlc (.reg .c) s

/-- `RLC D` (R184). -/
def execCbRlcD (s : State) : Out := shiftOperand .rlc (.reg .d) s

/-- `RLC E` (R184). -/
def execCbRlcE (s : State) : Out := shiftOperand .rlc (.reg .e) s

/-- `RLC H` (R184). -/
def execCbRlcH (s : State) : Out := shiftOperand .rlc (.reg .h) s

/-- `RLC L` (R184). -/
def execCbRlcL (s : State) : Out := shiftOperand .rlc (.reg .l) s

/-- `RLC (HL)` (R184). -/
def execCbRlcAtHl (s : State) : Out := shiftOperand .rlc .atHl s

/-- `RLC A` (R184). -/
def execCbRlcA (s : State) : Out := shiftOperand .rlc (.reg .a) s

/-- `RRC B` (R185). -/
def execCbRrcB (s : State) : Out := shiftOperand .rrc (.reg .b) s

/-- `RRC C` (R185). -/
def execCbRrcC (s : State) : Out := shiftOperand .rrc (.reg .c) s

/-- `RRC D` (R185). -/
def execCbRrcD (s : State) : Out := shiftOperand .rrc (.reg .d) s

/-- `RRC E` (R185). -/
def execCbRrcE (s : State) : Out := shiftOperand .rrc (.reg .e) s

/-- `RRC H` (R185). -/
def execCbRrcH (s : State) : Out := shiftOperand .rrc (.reg .h) s

/-- `RRC L` (R185). -/
def execCbRrcL (s : State) : Out := shiftOperand .rrc (.reg .l) s

/-- `RRC (HL)` (R185). -/
def execCbRrcAtHl (s : State) : Out := shiftOperand .rrc .atHl s

/-- `RRC A` (R185). -/
def execCbRrcA (s : State) : Out := shiftOperand .rrc (.reg .a) s

/-- `RL B` (R186). -/
def execCbRlB (s : State) : Out := shiftOperand .rl (.reg .b) s

/-- `RL C` (R186). -/
def execCbRlC (s : State) : Out := shiftOperand .rl (.reg .c) s

/-- `RL D` (R186). -/
def execCbRlD (s : State) : Out := shiftOperand .rl (.reg .d) s

/-- `RL E` (R186). -/
def execCbRlE (s : State) : Out := shiftOperand .rl (.reg .e) s

/-- `RL H` (R186). -/
def execCbRlH (s : State) : Out := shiftOperand .rl (.reg .h) s

/-- `RL L` (R186). -/
def execCbRlL (s : State) : Out := shiftOperand .rl (.reg .l) s

/-- `RL (HL)` (R186). -/
def execCbRlAtHl (s : State) : Out := shiftOperand .rl .atHl s

/-- `RL A` (R186). -/
def execCbRlA (s : State) : Out := shiftOperand .rl (.reg .a) s

/-- `RR B` (R187). -/
def execCbRrB (s : State) : Out := shiftOperand .rr (.reg .b) s

/-- `RR C` (R187). -/
def execCbRrC (s : State) : Out := shiftOperand .rr (.reg .c) s

/-- `RR D` (R187). -/
def execCbRrD (s : State) : Out := shiftOperand .rr (.reg .d) s

/-- `RR E` (R187). -/
def execCbRrE (s : State) : Out := shiftOperand .rr (.reg .e) s

/-- `RR H` (R187). -/
def execCbRrH (s : State) : Out := shiftOperand .rr (.reg .h) s

/-- `RR L` (R187). -/
def execCbRrL (s : State) : Out := shiftOperand .rr (.reg .l) s

/-- `RR (HL)` (R187). -/
def execCbRrAtHl (s : State) : Out := shiftOperand .rr .atHl s

/-- `RR A` (R187). -/
def execCbRrA (s : State) : Out := shiftOperand .rr (.reg .a) s

/-- `SLA B` (R188). -/
def execCbSlaB (s : State) : Out := shiftOperand .sla (.reg .b) s

/-- `SLA C` (R188). -/
def execCbSlaC (s : State) : Out := shiftOperand .sla (.reg .c) s

/-- `SLA D` (R188). -/
def execCbSlaD (s : State) : Out := shiftOperand .sla (.reg .d) s

/-- `SLA E` (R188). -/
def execCbSlaE (s : State) : Out := shiftOperand .sla (.reg .e) s

/-- `SLA H` (R188). -/
def execCbSlaH (s : State) : Out := shiftOperand .sla (.reg .h) s

/-- `SLA L` (R188). -/
def execCbSlaL (s : State) : Out := shiftOperand .sla (.reg .l) s

/-- `SLA (HL)` (R188). -/
def execCbSlaAtHl (s : State) : Out := shiftOperand .sla .atHl s

/-- `SLA A` (R188). -/
def execCbSlaA (s : State) : Out := shiftOperand .sla (.reg .a) s

/-- `SRA B` (R189). -/
def execCbSraB (s : State) : Out := shiftOperand .sra (.reg .b) s

/-- `SRA C` (R189). -/
def execCbSraC (s : State) : Out := shiftOperand .sra (.reg .c) s

/-- `SRA D` (R189). -/
def execCbSraD (s : State) : Out := shiftOperand .sra (.reg .d) s

/-- `SRA E` (R189). -/
def execCbSraE (s : State) : Out := shiftOperand .sra (.reg .e) s

/-- `SRA H` (R189). -/
def execCbSraH (s : State) : Out := shiftOperand .sra (.reg .h) s

/-- `SRA L` (R189). -/
def execCbSraL (s : State) : Out := shiftOperand .sra (.reg .l) s

/-- `SRA (HL)` (R189). -/
def execCbSraAtHl (s : State) : Out := shiftOperand .sra .atHl s

/-- `SRA A` (R189). -/
def execCbSraA (s : State) : Out := shiftOperand .sra (.reg .a) s

/-- `SWAP B` (R190). -/
def execCbSwapB (s : State) : Out := shiftOperand .swap (.reg .b) s

/-- `SWAP C` (R190). -/
def execCbSwapC (s : State) : Out := shiftOperand .swap (.reg .c) s

/-- `SWAP D` (R190). -/
def execCbSwapD (s : State) : Out := shiftOperand .swap (.reg .d) s

/-- `SWAP E` (R190). -/
def execCbSwapE (s : State) : Out := shiftOperand .swap (.reg .e) s

/-- `SWAP H` (R190). -/
def execCbSwapH (s : State) : Out := shiftOperand .swap (.reg .h) s

/-- `SWAP L` (R190). -/
def execCbSwapL (s : State) : Out := shiftOperand .swap (.reg .l) s

/-- `SWAP (HL)` (R190). -/
def execCbSwapAtHl (s : State) : Out := shiftOperand .swap .atHl s

/-- `SWAP A` (R190). -/
def execCbSwapA (s : State) : Out := shiftOperand .swap (.reg .a) s

/-- `SRL B` (R191). -/
def execCbSrlB (s : State) : Out := shiftOperand .srl (.reg .b) s

/-- `SRL C` (R191). -/
def execCbSrlC (s : State) : Out := shiftOperand .srl (.reg .c) s

/-- `SRL D` (R191). -/
def execCbSrlD (s : State) : Out := shiftOperand .srl (.reg .d) s

/-- `SRL E` (R191). -/
def execCbSrlE (s : State) : Out := shiftOperand .srl (.reg .e) s

/-- `SRL H` (R191). -/
def execCbSrlH (s : State) : Out := shiftOperand .srl (.reg .h) s

/-- `SRL L` (R191). -/
def execCbSrlL (s : State) : Out := shiftOperand .srl (.reg .l) s

/-- `SRL (HL)` (R191). -/
def execCbSrlAtHl (s : State) : Out := shiftOperand .srl .atHl s

/-- `SRL A` (R191). -/
def execCbSrlA (s : State) : Out := shiftOperand .srl (.reg .a) s

end Sys2Proof.Machine
end

