-- ==== Sys2Proof/Machine/Bit.lean ====
section
/-! DEFINITION. The single-bit instructions (45_bit.md R195 to R197) and the prefix row (30_encoding.md R115). -/

namespace Sys2Proof.Machine

/-! ## Shared shapes -/

/-- BIT b: the operand is read and nothing is written back (R195). -/
def testBit (b : Fin 8) (o : Operand8) (s : State) : Out :=
  readOperandThen o s fun v s => .next (s.setFlags (bitFlags b v s.cpu.f))

/-- A read-modify-write of one operand that writes no flag. -/
def rewriteOperand (o : Operand8) (value : Byte → Byte) (s : State) : Out :=
  readOperandThen o s fun v s => writeOperandThen o (value v) s fun s => .next s

/-- RES b (R196). -/
def clearBit (b : Fin 8) (o : Operand8) (s : State) : Out := rewriteOperand o (resBit b) s

/-- SET b (R197). -/
def raiseBit (b : Fin 8) (o : Operand8) (s : State) : Out := rewriteOperand o (setBit b) s

/-! ## The instructions -/

/-- `BIT 0,B` (R195). -/
def execCbBit0B (s : State) : Out := testBit 0 (.reg .b) s

/-- `BIT 0,C` (R195). -/
def execCbBit0C (s : State) : Out := testBit 0 (.reg .c) s

/-- `BIT 0,D` (R195). -/
def execCbBit0D (s : State) : Out := testBit 0 (.reg .d) s

/-- `BIT 0,E` (R195). -/
def execCbBit0E (s : State) : Out := testBit 0 (.reg .e) s

/-- `BIT 0,H` (R195). -/
def execCbBit0H (s : State) : Out := testBit 0 (.reg .h) s

/-- `BIT 0,L` (R195). -/
def execCbBit0L (s : State) : Out := testBit 0 (.reg .l) s

/-- `BIT 0,(HL)` (R195). -/
def execCbBit0AtHl (s : State) : Out := testBit 0 .atHl s

/-- `BIT 0,A` (R195). -/
def execCbBit0A (s : State) : Out := testBit 0 (.reg .a) s

/-- `BIT 1,B` (R195). -/
def execCbBit1B (s : State) : Out := testBit 1 (.reg .b) s

/-- `BIT 1,C` (R195). -/
def execCbBit1C (s : State) : Out := testBit 1 (.reg .c) s

/-- `BIT 1,D` (R195). -/
def execCbBit1D (s : State) : Out := testBit 1 (.reg .d) s

/-- `BIT 1,E` (R195). -/
def execCbBit1E (s : State) : Out := testBit 1 (.reg .e) s

/-- `BIT 1,H` (R195). -/
def execCbBit1H (s : State) : Out := testBit 1 (.reg .h) s

/-- `BIT 1,L` (R195). -/
def execCbBit1L (s : State) : Out := testBit 1 (.reg .l) s

/-- `BIT 1,(HL)` (R195). -/
def execCbBit1AtHl (s : State) : Out := testBit 1 .atHl s

/-- `BIT 1,A` (R195). -/
def execCbBit1A (s : State) : Out := testBit 1 (.reg .a) s

/-- `BIT 2,B` (R195). -/
def execCbBit2B (s : State) : Out := testBit 2 (.reg .b) s

/-- `BIT 2,C` (R195). -/
def execCbBit2C (s : State) : Out := testBit 2 (.reg .c) s

/-- `BIT 2,D` (R195). -/
def execCbBit2D (s : State) : Out := testBit 2 (.reg .d) s

/-- `BIT 2,E` (R195). -/
def execCbBit2E (s : State) : Out := testBit 2 (.reg .e) s

/-- `BIT 2,H` (R195). -/
def execCbBit2H (s : State) : Out := testBit 2 (.reg .h) s

/-- `BIT 2,L` (R195). -/
def execCbBit2L (s : State) : Out := testBit 2 (.reg .l) s

/-- `BIT 2,(HL)` (R195). -/
def execCbBit2AtHl (s : State) : Out := testBit 2 .atHl s

/-- `BIT 2,A` (R195). -/
def execCbBit2A (s : State) : Out := testBit 2 (.reg .a) s

/-- `BIT 3,B` (R195). -/
def execCbBit3B (s : State) : Out := testBit 3 (.reg .b) s

/-- `BIT 3,C` (R195). -/
def execCbBit3C (s : State) : Out := testBit 3 (.reg .c) s

/-- `BIT 3,D` (R195). -/
def execCbBit3D (s : State) : Out := testBit 3 (.reg .d) s

/-- `BIT 3,E` (R195). -/
def execCbBit3E (s : State) : Out := testBit 3 (.reg .e) s

/-- `BIT 3,H` (R195). -/
def execCbBit3H (s : State) : Out := testBit 3 (.reg .h) s

/-- `BIT 3,L` (R195). -/
def execCbBit3L (s : State) : Out := testBit 3 (.reg .l) s

/-- `BIT 3,(HL)` (R195). -/
def execCbBit3AtHl (s : State) : Out := testBit 3 .atHl s

/-- `BIT 3,A` (R195). -/
def execCbBit3A (s : State) : Out := testBit 3 (.reg .a) s

/-- `BIT 4,B` (R195). -/
def execCbBit4B (s : State) : Out := testBit 4 (.reg .b) s

/-- `BIT 4,C` (R195). -/
def execCbBit4C (s : State) : Out := testBit 4 (.reg .c) s

/-- `BIT 4,D` (R195). -/
def execCbBit4D (s : State) : Out := testBit 4 (.reg .d) s

/-- `BIT 4,E` (R195). -/
def execCbBit4E (s : State) : Out := testBit 4 (.reg .e) s

/-- `BIT 4,H` (R195). -/
def execCbBit4H (s : State) : Out := testBit 4 (.reg .h) s

/-- `BIT 4,L` (R195). -/
def execCbBit4L (s : State) : Out := testBit 4 (.reg .l) s

/-- `BIT 4,(HL)` (R195). -/
def execCbBit4AtHl (s : State) : Out := testBit 4 .atHl s

/-- `BIT 4,A` (R195). -/
def execCbBit4A (s : State) : Out := testBit 4 (.reg .a) s

/-- `BIT 5,B` (R195). -/
def execCbBit5B (s : State) : Out := testBit 5 (.reg .b) s

/-- `BIT 5,C` (R195). -/
def execCbBit5C (s : State) : Out := testBit 5 (.reg .c) s

/-- `BIT 5,D` (R195). -/
def execCbBit5D (s : State) : Out := testBit 5 (.reg .d) s

/-- `BIT 5,E` (R195). -/
def execCbBit5E (s : State) : Out := testBit 5 (.reg .e) s

/-- `BIT 5,H` (R195). -/
def execCbBit5H (s : State) : Out := testBit 5 (.reg .h) s

/-- `BIT 5,L` (R195). -/
def execCbBit5L (s : State) : Out := testBit 5 (.reg .l) s

/-- `BIT 5,(HL)` (R195). -/
def execCbBit5AtHl (s : State) : Out := testBit 5 .atHl s

/-- `BIT 5,A` (R195). -/
def execCbBit5A (s : State) : Out := testBit 5 (.reg .a) s

/-- `BIT 6,B` (R195). -/
def execCbBit6B (s : State) : Out := testBit 6 (.reg .b) s

/-- `BIT 6,C` (R195). -/
def execCbBit6C (s : State) : Out := testBit 6 (.reg .c) s

/-- `BIT 6,D` (R195). -/
def execCbBit6D (s : State) : Out := testBit 6 (.reg .d) s

/-- `BIT 6,E` (R195). -/
def execCbBit6E (s : State) : Out := testBit 6 (.reg .e) s

/-- `BIT 6,H` (R195). -/
def execCbBit6H (s : State) : Out := testBit 6 (.reg .h) s

/-- `BIT 6,L` (R195). -/
def execCbBit6L (s : State) : Out := testBit 6 (.reg .l) s

/-- `BIT 6,(HL)` (R195). -/
def execCbBit6AtHl (s : State) : Out := testBit 6 .atHl s

/-- `BIT 6,A` (R195). -/
def execCbBit6A (s : State) : Out := testBit 6 (.reg .a) s

/-- `BIT 7,B` (R195). -/
def execCbBit7B (s : State) : Out := testBit 7 (.reg .b) s

/-- `BIT 7,C` (R195). -/
def execCbBit7C (s : State) : Out := testBit 7 (.reg .c) s

/-- `BIT 7,D` (R195). -/
def execCbBit7D (s : State) : Out := testBit 7 (.reg .d) s

/-- `BIT 7,E` (R195). -/
def execCbBit7E (s : State) : Out := testBit 7 (.reg .e) s

/-- `BIT 7,H` (R195). -/
def execCbBit7H (s : State) : Out := testBit 7 (.reg .h) s

/-- `BIT 7,L` (R195). -/
def execCbBit7L (s : State) : Out := testBit 7 (.reg .l) s

/-- `BIT 7,(HL)` (R195). -/
def execCbBit7AtHl (s : State) : Out := testBit 7 .atHl s

/-- `BIT 7,A` (R195). -/
def execCbBit7A (s : State) : Out := testBit 7 (.reg .a) s

/-- `RES 0,B` (R196). -/
def execCbRes0B (s : State) : Out := clearBit 0 (.reg .b) s

/-- `RES 0,C` (R196). -/
def execCbRes0C (s : State) : Out := clearBit 0 (.reg .c) s

/-- `RES 0,D` (R196). -/
def execCbRes0D (s : State) : Out := clearBit 0 (.reg .d) s

/-- `RES 0,E` (R196). -/
def execCbRes0E (s : State) : Out := clearBit 0 (.reg .e) s

/-- `RES 0,H` (R196). -/
def execCbRes0H (s : State) : Out := clearBit 0 (.reg .h) s

/-- `RES 0,L` (R196). -/
def execCbRes0L (s : State) : Out := clearBit 0 (.reg .l) s

/-- `RES 0,(HL)` (R196). -/
def execCbRes0AtHl (s : State) : Out := clearBit 0 .atHl s

/-- `RES 0,A` (R196). -/
def execCbRes0A (s : State) : Out := clearBit 0 (.reg .a) s

/-- `RES 1,B` (R196). -/
def execCbRes1B (s : State) : Out := clearBit 1 (.reg .b) s

/-- `RES 1,C` (R196). -/
def execCbRes1C (s : State) : Out := clearBit 1 (.reg .c) s

/-- `RES 1,D` (R196). -/
def execCbRes1D (s : State) : Out := clearBit 1 (.reg .d) s

/-- `RES 1,E` (R196). -/
def execCbRes1E (s : State) : Out := clearBit 1 (.reg .e) s

/-- `RES 1,H` (R196). -/
def execCbRes1H (s : State) : Out := clearBit 1 (.reg .h) s

/-- `RES 1,L` (R196). -/
def execCbRes1L (s : State) : Out := clearBit 1 (.reg .l) s

/-- `RES 1,(HL)` (R196). -/
def execCbRes1AtHl (s : State) : Out := clearBit 1 .atHl s

/-- `RES 1,A` (R196). -/
def execCbRes1A (s : State) : Out := clearBit 1 (.reg .a) s

/-- `RES 2,B` (R196). -/
def execCbRes2B (s : State) : Out := clearBit 2 (.reg .b) s

/-- `RES 2,C` (R196). -/
def execCbRes2C (s : State) : Out := clearBit 2 (.reg .c) s

/-- `RES 2,D` (R196). -/
def execCbRes2D (s : State) : Out := clearBit 2 (.reg .d) s

/-- `RES 2,E` (R196). -/
def execCbRes2E (s : State) : Out := clearBit 2 (.reg .e) s

/-- `RES 2,H` (R196). -/
def execCbRes2H (s : State) : Out := clearBit 2 (.reg .h) s

/-- `RES 2,L` (R196). -/
def execCbRes2L (s : State) : Out := clearBit 2 (.reg .l) s

/-- `RES 2,(HL)` (R196). -/
def execCbRes2AtHl (s : State) : Out := clearBit 2 .atHl s

/-- `RES 2,A` (R196). -/
def execCbRes2A (s : State) : Out := clearBit 2 (.reg .a) s

/-- `RES 3,B` (R196). -/
def execCbRes3B (s : State) : Out := clearBit 3 (.reg .b) s

/-- `RES 3,C` (R196). -/
def execCbRes3C (s : State) : Out := clearBit 3 (.reg .c) s

/-- `RES 3,D` (R196). -/
def execCbRes3D (s : State) : Out := clearBit 3 (.reg .d) s

/-- `RES 3,E` (R196). -/
def execCbRes3E (s : State) : Out := clearBit 3 (.reg .e) s

/-- `RES 3,H` (R196). -/
def execCbRes3H (s : State) : Out := clearBit 3 (.reg .h) s

/-- `RES 3,L` (R196). -/
def execCbRes3L (s : State) : Out := clearBit 3 (.reg .l) s

/-- `RES 3,(HL)` (R196). -/
def execCbRes3AtHl (s : State) : Out := clearBit 3 .atHl s

/-- `RES 3,A` (R196). -/
def execCbRes3A (s : State) : Out := clearBit 3 (.reg .a) s

/-- `RES 4,B` (R196). -/
def execCbRes4B (s : State) : Out := clearBit 4 (.reg .b) s

/-- `RES 4,C` (R196). -/
def execCbRes4C (s : State) : Out := clearBit 4 (.reg .c) s

/-- `RES 4,D` (R196). -/
def execCbRes4D (s : State) : Out := clearBit 4 (.reg .d) s

/-- `RES 4,E` (R196). -/
def execCbRes4E (s : State) : Out := clearBit 4 (.reg .e) s

/-- `RES 4,H` (R196). -/
def execCbRes4H (s : State) : Out := clearBit 4 (.reg .h) s

/-- `RES 4,L` (R196). -/
def execCbRes4L (s : State) : Out := clearBit 4 (.reg .l) s

/-- `RES 4,(HL)` (R196). -/
def execCbRes4AtHl (s : State) : Out := clearBit 4 .atHl s

/-- `RES 4,A` (R196). -/
def execCbRes4A (s : State) : Out := clearBit 4 (.reg .a) s

/-- `RES 5,B` (R196). -/
def execCbRes5B (s : State) : Out := clearBit 5 (.reg .b) s

/-- `RES 5,C` (R196). -/
def execCbRes5C (s : State) : Out := clearBit 5 (.reg .c) s

/-- `RES 5,D` (R196). -/
def execCbRes5D (s : State) : Out := clearBit 5 (.reg .d) s

/-- `RES 5,E` (R196). -/
def execCbRes5E (s : State) : Out := clearBit 5 (.reg .e) s

/-- `RES 5,H` (R196). -/
def execCbRes5H (s : State) : Out := clearBit 5 (.reg .h) s

/-- `RES 5,L` (R196). -/
def execCbRes5L (s : State) : Out := clearBit 5 (.reg .l) s

/-- `RES 5,(HL)` (R196). -/
def execCbRes5AtHl (s : State) : Out := clearBit 5 .atHl s

/-- `RES 5,A` (R196). -/
def execCbRes5A (s : State) : Out := clearBit 5 (.reg .a) s

/-- `RES 6,B` (R196). -/
def execCbRes6B (s : State) : Out := clearBit 6 (.reg .b) s

/-- `RES 6,C` (R196). -/
def execCbRes6C (s : State) : Out := clearBit 6 (.reg .c) s

/-- `RES 6,D` (R196). -/
def execCbRes6D (s : State) : Out := clearBit 6 (.reg .d) s

/-- `RES 6,E` (R196). -/
def execCbRes6E (s : State) : Out := clearBit 6 (.reg .e) s

/-- `RES 6,H` (R196). -/
def execCbRes6H (s : State) : Out := clearBit 6 (.reg .h) s

/-- `RES 6,L` (R196). -/
def execCbRes6L (s : State) : Out := clearBit 6 (.reg .l) s

/-- `RES 6,(HL)` (R196). -/
def execCbRes6AtHl (s : State) : Out := clearBit 6 .atHl s

/-- `RES 6,A` (R196). -/
def execCbRes6A (s : State) : Out := clearBit 6 (.reg .a) s

/-- `RES 7,B` (R196). -/
def execCbRes7B (s : State) : Out := clearBit 7 (.reg .b) s

/-- `RES 7,C` (R196). -/
def execCbRes7C (s : State) : Out := clearBit 7 (.reg .c) s

/-- `RES 7,D` (R196). -/
def execCbRes7D (s : State) : Out := clearBit 7 (.reg .d) s

/-- `RES 7,E` (R196). -/
def execCbRes7E (s : State) : Out := clearBit 7 (.reg .e) s

/-- `RES 7,H` (R196). -/
def execCbRes7H (s : State) : Out := clearBit 7 (.reg .h) s

/-- `RES 7,L` (R196). -/
def execCbRes7L (s : State) : Out := clearBit 7 (.reg .l) s

/-- `RES 7,(HL)` (R196). -/
def execCbRes7AtHl (s : State) : Out := clearBit 7 .atHl s

/-- `RES 7,A` (R196). -/
def execCbRes7A (s : State) : Out := clearBit 7 (.reg .a) s

/-- `SET 0,B` (R197). -/
def execCbSet0B (s : State) : Out := raiseBit 0 (.reg .b) s

/-- `SET 0,C` (R197). -/
def execCbSet0C (s : State) : Out := raiseBit 0 (.reg .c) s

/-- `SET 0,D` (R197). -/
def execCbSet0D (s : State) : Out := raiseBit 0 (.reg .d) s

/-- `SET 0,E` (R197). -/
def execCbSet0E (s : State) : Out := raiseBit 0 (.reg .e) s

/-- `SET 0,H` (R197). -/
def execCbSet0H (s : State) : Out := raiseBit 0 (.reg .h) s

/-- `SET 0,L` (R197). -/
def execCbSet0L (s : State) : Out := raiseBit 0 (.reg .l) s

/-- `SET 0,(HL)` (R197). -/
def execCbSet0AtHl (s : State) : Out := raiseBit 0 .atHl s

/-- `SET 0,A` (R197). -/
def execCbSet0A (s : State) : Out := raiseBit 0 (.reg .a) s

/-- `SET 1,B` (R197). -/
def execCbSet1B (s : State) : Out := raiseBit 1 (.reg .b) s

/-- `SET 1,C` (R197). -/
def execCbSet1C (s : State) : Out := raiseBit 1 (.reg .c) s

/-- `SET 1,D` (R197). -/
def execCbSet1D (s : State) : Out := raiseBit 1 (.reg .d) s

/-- `SET 1,E` (R197). -/
def execCbSet1E (s : State) : Out := raiseBit 1 (.reg .e) s

/-- `SET 1,H` (R197). -/
def execCbSet1H (s : State) : Out := raiseBit 1 (.reg .h) s

/-- `SET 1,L` (R197). -/
def execCbSet1L (s : State) : Out := raiseBit 1 (.reg .l) s

/-- `SET 1,(HL)` (R197). -/
def execCbSet1AtHl (s : State) : Out := raiseBit 1 .atHl s

/-- `SET 1,A` (R197). -/
def execCbSet1A (s : State) : Out := raiseBit 1 (.reg .a) s

/-- `SET 2,B` (R197). -/
def execCbSet2B (s : State) : Out := raiseBit 2 (.reg .b) s

/-- `SET 2,C` (R197). -/
def execCbSet2C (s : State) : Out := raiseBit 2 (.reg .c) s

/-- `SET 2,D` (R197). -/
def execCbSet2D (s : State) : Out := raiseBit 2 (.reg .d) s

/-- `SET 2,E` (R197). -/
def execCbSet2E (s : State) : Out := raiseBit 2 (.reg .e) s

/-- `SET 2,H` (R197). -/
def execCbSet2H (s : State) : Out := raiseBit 2 (.reg .h) s

/-- `SET 2,L` (R197). -/
def execCbSet2L (s : State) : Out := raiseBit 2 (.reg .l) s

/-- `SET 2,(HL)` (R197). -/
def execCbSet2AtHl (s : State) : Out := raiseBit 2 .atHl s

/-- `SET 2,A` (R197). -/
def execCbSet2A (s : State) : Out := raiseBit 2 (.reg .a) s

/-- `SET 3,B` (R197). -/
def execCbSet3B (s : State) : Out := raiseBit 3 (.reg .b) s

/-- `SET 3,C` (R197). -/
def execCbSet3C (s : State) : Out := raiseBit 3 (.reg .c) s

/-- `SET 3,D` (R197). -/
def execCbSet3D (s : State) : Out := raiseBit 3 (.reg .d) s

/-- `SET 3,E` (R197). -/
def execCbSet3E (s : State) : Out := raiseBit 3 (.reg .e) s

/-- `SET 3,H` (R197). -/
def execCbSet3H (s : State) : Out := raiseBit 3 (.reg .h) s

/-- `SET 3,L` (R197). -/
def execCbSet3L (s : State) : Out := raiseBit 3 (.reg .l) s

/-- `SET 3,(HL)` (R197). -/
def execCbSet3AtHl (s : State) : Out := raiseBit 3 .atHl s

/-- `SET 3,A` (R197). -/
def execCbSet3A (s : State) : Out := raiseBit 3 (.reg .a) s

/-- `SET 4,B` (R197). -/
def execCbSet4B (s : State) : Out := raiseBit 4 (.reg .b) s

/-- `SET 4,C` (R197). -/
def execCbSet4C (s : State) : Out := raiseBit 4 (.reg .c) s

/-- `SET 4,D` (R197). -/
def execCbSet4D (s : State) : Out := raiseBit 4 (.reg .d) s

/-- `SET 4,E` (R197). -/
def execCbSet4E (s : State) : Out := raiseBit 4 (.reg .e) s

/-- `SET 4,H` (R197). -/
def execCbSet4H (s : State) : Out := raiseBit 4 (.reg .h) s

/-- `SET 4,L` (R197). -/
def execCbSet4L (s : State) : Out := raiseBit 4 (.reg .l) s

/-- `SET 4,(HL)` (R197). -/
def execCbSet4AtHl (s : State) : Out := raiseBit 4 .atHl s

/-- `SET 4,A` (R197). -/
def execCbSet4A (s : State) : Out := raiseBit 4 (.reg .a) s

/-- `SET 5,B` (R197). -/
def execCbSet5B (s : State) : Out := raiseBit 5 (.reg .b) s

/-- `SET 5,C` (R197). -/
def execCbSet5C (s : State) : Out := raiseBit 5 (.reg .c) s

/-- `SET 5,D` (R197). -/
def execCbSet5D (s : State) : Out := raiseBit 5 (.reg .d) s

/-- `SET 5,E` (R197). -/
def execCbSet5E (s : State) : Out := raiseBit 5 (.reg .e) s

/-- `SET 5,H` (R197). -/
def execCbSet5H (s : State) : Out := raiseBit 5 (.reg .h) s

/-- `SET 5,L` (R197). -/
def execCbSet5L (s : State) : Out := raiseBit 5 (.reg .l) s

/-- `SET 5,(HL)` (R197). -/
def execCbSet5AtHl (s : State) : Out := raiseBit 5 .atHl s

/-- `SET 5,A` (R197). -/
def execCbSet5A (s : State) : Out := raiseBit 5 (.reg .a) s

/-- `SET 6,B` (R197). -/
def execCbSet6B (s : State) : Out := raiseBit 6 (.reg .b) s

/-- `SET 6,C` (R197). -/
def execCbSet6C (s : State) : Out := raiseBit 6 (.reg .c) s

/-- `SET 6,D` (R197). -/
def execCbSet6D (s : State) : Out := raiseBit 6 (.reg .d) s

/-- `SET 6,E` (R197). -/
def execCbSet6E (s : State) : Out := raiseBit 6 (.reg .e) s

/-- `SET 6,H` (R197). -/
def execCbSet6H (s : State) : Out := raiseBit 6 (.reg .h) s

/-- `SET 6,L` (R197). -/
def execCbSet6L (s : State) : Out := raiseBit 6 (.reg .l) s

/-- `SET 6,(HL)` (R197). -/
def execCbSet6AtHl (s : State) : Out := raiseBit 6 .atHl s

/-- `SET 6,A` (R197). -/
def execCbSet6A (s : State) : Out := raiseBit 6 (.reg .a) s

/-- `SET 7,B` (R197). -/
def execCbSet7B (s : State) : Out := raiseBit 7 (.reg .b) s

/-- `SET 7,C` (R197). -/
def execCbSet7C (s : State) : Out := raiseBit 7 (.reg .c) s

/-- `SET 7,D` (R197). -/
def execCbSet7D (s : State) : Out := raiseBit 7 (.reg .d) s

/-- `SET 7,E` (R197). -/
def execCbSet7E (s : State) : Out := raiseBit 7 (.reg .e) s

/-- `SET 7,H` (R197). -/
def execCbSet7H (s : State) : Out := raiseBit 7 (.reg .h) s

/-- `SET 7,L` (R197). -/
def execCbSet7L (s : State) : Out := raiseBit 7 (.reg .l) s

/-- `SET 7,(HL)` (R197). -/
def execCbSet7AtHl (s : State) : Out := raiseBit 7 .atHl s

/-- `SET 7,A` (R197). -/
def execCbSet7A (s : State) : Out := raiseBit 7 (.reg .a) s

/-- The prefix row: the row 0xCB<op2> by its fields x, y and z (R106, R112, R115). No decoding yields this constructor
(assumption log 12). -/
def execPrefixCb (op2 : Byte) (s : State) : Out :=
  match fieldX op2 with
  | 0 => shiftOperand (ShiftOp.ofCode (fieldY op2)) (Operand8.ofCode (fieldZ op2)) s
  | 1 => testBit (fieldY op2) (Operand8.ofCode (fieldZ op2)) s
  | 2 => clearBit (fieldY op2) (Operand8.ofCode (fieldZ op2)) s
  | 3 => raiseBit (fieldY op2) (Operand8.ofCode (fieldZ op2)) s

end Sys2Proof.Machine
end

