-- ==== Sys2Proof/Machine/Control.lean ====
section
/-! DEFINITION. The jumps, calls, returns and restarts (46_control.md R200 to R211). None writes a flag. -/

namespace Sys2Proof.Machine

/-! ## Shared shapes

In a meaning pc is already the address after the instruction's bytes (10_state.md R25). -/

/-- `pc <- t` with the extra cycles of a taken jump (R201, R202, R204, R205, R316). -/
def jumpTo (t : Word) (s : State) : Out := .next ((s.setPc t).tickHw 4)

/-- JP cc,nn (R202). -/
def jumpIf (cc : Cond) (t : Word) (s : State) : Out := if condHolds cc s.cpu.f then jumpTo t s else .next s

/-- `pc + sext_16(e)`, the target of a relative jump (R204). -/
def relativeTarget (e : Byte) (s : State) : Word := s.cpu.pc + sext16 e

/-- JP HL (R203): no extra cycles. -/
def jumpHl (s : State) : Out := .next (s.setPc s.cpu.hl)

/-- `Push16(pc); pc <- t` (R206, R207, R210). -/
def callTo (t : Word) (s : State) : Out := push16Then s.cpu.pc s fun s => .next ((s.setPc t).tickHw 4)

/-- CALL cc,nn (R207). -/
def callIf (cc : Cond) (t : Word) (s : State) : Out := if condHolds cc s.cpu.f then callTo t s else .next s

/-- `pc <- Pop16()`, with `extra` cycles under `Hardware` (R208, R209). -/
def returnWith (extra : Nat) (s : State) : Out := pop16Then s fun v s => .next ((s.setPc v).tickHw extra)

/-- RET cc (R209). -/
def returnIf (cc : Cond) (s : State) : Out :=
  if condHolds cc s.cpu.f then returnWith 8 s else .next (s.tickHw 4)

/-! ## The instructions -/

/-- `JP nn` (R201). -/
def execJpNn (nn : Word) (s : State) : Out := jumpTo nn s

/-- `JP NZ,nn` (R202). -/
def execJpNzNn (nn : Word) (s : State) : Out := jumpIf .nz nn s

/-- `JP Z,nn` (R202). -/
def execJpZNn (nn : Word) (s : State) : Out := jumpIf .z nn s

/-- `JP NC,nn` (R202). -/
def execJpNcNn (nn : Word) (s : State) : Out := jumpIf .nc nn s

/-- `JP C,nn` (R202). -/
def execJpCyNn (nn : Word) (s : State) : Out := jumpIf .c nn s

/-- `JP HL` (R203). -/
def execJpHl (s : State) : Out := jumpHl s

/-- `JR e` (R204). -/
def execJrDisp (e : Byte) (s : State) : Out := jumpTo (relativeTarget e s) s

/-- `JR NZ,e` (R205). -/
def execJrNzDisp (e : Byte) (s : State) : Out := jumpIf .nz (relativeTarget e s) s

/-- `JR Z,e` (R205). -/
def execJrZDisp (e : Byte) (s : State) : Out := jumpIf .z (relativeTarget e s) s

/-- `JR NC,e` (R205). -/
def execJrNcDisp (e : Byte) (s : State) : Out := jumpIf .nc (relativeTarget e s) s

/-- `JR C,e` (R205). -/
def execJrCyDisp (e : Byte) (s : State) : Out := jumpIf .c (relativeTarget e s) s

/-- `CALL nn` (R206). -/
def execCallNn (nn : Word) (s : State) : Out := callTo nn s

/-- `CALL NZ,nn` (R207). -/
def execCallNzNn (nn : Word) (s : State) : Out := callIf .nz nn s

/-- `CALL Z,nn` (R207). -/
def execCallZNn (nn : Word) (s : State) : Out := callIf .z nn s

/-- `CALL NC,nn` (R207). -/
def execCallNcNn (nn : Word) (s : State) : Out := callIf .nc nn s

/-- `CALL C,nn` (R207). -/
def execCallCyNn (nn : Word) (s : State) : Out := callIf .c nn s

/-- `RET` (R208). -/
def execRet (s : State) : Out := returnWith 4 s

/-- `RET NZ` (R209). -/
def execRetNz (s : State) : Out := returnIf .nz s

/-- `RET Z` (R209). -/
def execRetZ (s : State) : Out := returnIf .z s

/-- `RET NC` (R209). -/
def execRetNc (s : State) : Out := returnIf .nc s

/-- `RET C` (R209). -/
def execRetCy (s : State) : Out := returnIf .c s

/-- `RST 00h` (R210). -/
def execRst00 (s : State) : Out := callTo 0x0000#16 s

/-- `RST 08h` (R210). -/
def execRst08 (s : State) : Out := callTo 0x0008#16 s

/-- `RST 10h` (R210). -/
def execRst10 (s : State) : Out := callTo 0x0010#16 s

/-- `RST 18h` (R210). -/
def execRst18 (s : State) : Out := callTo 0x0018#16 s

/-- `RST 20h` (R210). -/
def execRst20 (s : State) : Out := callTo 0x0020#16 s

/-- `RST 28h` (R210). -/
def execRst28 (s : State) : Out := callTo 0x0028#16 s

/-- `RST 30h` (R210). -/
def execRst30 (s : State) : Out := callTo 0x0030#16 s

/-- `RST 38h` (R210). -/
def execRst38 (s : State) : Out := callTo 0x0038#16 s

/-- `RETI` (R211). -/
def execReti (s : State) : Out := returnFromInterrupt s

end Sys2Proof.Machine
end

