-- ==== Sys2Proof/Machine/Load16.lean ====
section
/-! DEFINITION. The 16-bit loads and the stack transfers (41_load16.md R140 to R145). POP AF alone writes flags. -/

namespace Sys2Proof.Machine

/-! ## Shared shapes -/

/-- `x[rr] <- nn` (R140). -/
def loadPair (rr : Pair) (nn : Word) (s : State) : Out := .next (s.withCpu (s.cpu.setPair rr nn))

/-- `PUSH rr` (R143). -/
def pushPair (rr : StackPair) (s : State) : Out :=
  push16Then (s.cpu.stackPair rr) s fun s => .next (s.tickHw 4)

/-- `POP rr` (R144) and `POP AF` (R145). -/
def popPair (rr : StackPair) (s : State) : Out :=
  pop16Then s fun v s => .next (s.withCpu (s.cpu.setStackPair rr v))

/-- `MemWrite(a, 2, x[SP])`, the low byte first (R141). -/
def storeSp (addr : Word) (s : State) : Out :=
  writeThen addr (loByte s.cpu.sp) s fun s => writeThen (addr + 1#16) (hiByte s.cpu.sp) s fun s => .next s

/-- `x[SP] <- x[HL]` (R142). -/
def loadSpFromHl (s : State) : Out := .next ((s.setSp s.cpu.hl).tickHw 4)

/-! ## The instructions -/

/-- `LD BC,nn` (R140). -/
def execLdBcNn (nn : Word) (s : State) : Out := loadPair .bc nn s

/-- `LD DE,nn` (R140). -/
def execLdDeNn (nn : Word) (s : State) : Out := loadPair .de nn s

/-- `LD HL,nn` (R140). -/
def execLdHlNn (nn : Word) (s : State) : Out := loadPair .hl nn s

/-- `LD SP,nn` (R140). -/
def execLdSpNn (nn : Word) (s : State) : Out := loadPair .sp nn s

/-- `LD (nn),SP` (R141). -/
def execLdAtNnSp (nn : Word) (s : State) : Out := storeSp nn s

/-- `LD SP,HL` (R142). -/
def execLdSpHl (s : State) : Out := loadSpFromHl s

/-- `PUSH BC` (R143). -/
def execPushBc (s : State) : Out := pushPair .bc s

/-- `PUSH DE` (R143). -/
def execPushDe (s : State) : Out := pushPair .de s

/-- `PUSH HL` (R143). -/
def execPushHl (s : State) : Out := pushPair .hl s

/-- `PUSH AF` (R143). -/
def execPushAf (s : State) : Out := pushPair .af s

/-- `POP BC` (R144). -/
def execPopBc (s : State) : Out := popPair .bc s

/-- `POP DE` (R144). -/
def execPopDe (s : State) : Out := popPair .de s

/-- `POP HL` (R144). -/
def execPopHl (s : State) : Out := popPair .hl s

/-- `POP AF` (R145). -/
def execPopAf (s : State) : Out := popPair .af s

end Sys2Proof.Machine
end

