-- ==== Sys2Proof/Machine/Load8.lean ====
section
/-! DEFINITION. The 8-bit loads (40_load8.md R120 to R138). No load writes a flag. -/

namespace Sys2Proof.Machine

/-! ## Shared shapes -/

/-- `x[d] <- x[s]` (R120). -/
def loadReg (dst src : Reg8) (s : State) : Out := .next (s.withCpu (s.cpu.setReg dst (s.cpu.reg src)))

/-- `x[d] <- n` (R121). -/
def loadImm (dst : Reg8) (n : Byte) (s : State) : Out := .next (s.withCpu (s.cpu.setReg dst n))

/-- `x[d] <- MemRead(addr, 1)`. -/
def loadFrom (dst : Reg8) (addr : Word) (s : State) : Out :=
  readThen addr s fun v s => .next (s.withCpu (s.cpu.setReg dst v))

/-- `MemWrite(addr, 1, v)`. -/
def storeTo (addr : Word) (v : Byte) (s : State) : Out := writeThen addr v s fun s => .next s

/-- `x[A] <- MemRead(x[HL], 1); x[HL] <- x[HL] + delta` (R135, R136). -/
def loadAStepping (delta : Word) (s : State) : Out :=
  readThen s.cpu.hl s fun v s => .next (s.withCpu ((s.cpu.setReg .a v).setHl (s.cpu.hl + delta)))

/-- `MemWrite(x[HL], 1, x[A]); x[HL] <- x[HL] + delta` (R137, R138). -/
def storeAStepping (delta : Word) (s : State) : Out :=
  writeThen s.cpu.hl s.cpu.a s fun s => .next (s.withCpu (s.cpu.setHl (s.cpu.hl + delta)))

/-! ## The instructions -/

/-- `LD B,B` (R120). -/
def execLdBB (s : State) : Out := loadReg .b .b s

/-- `LD B,C` (R120). -/
def execLdBC (s : State) : Out := loadReg .b .c s

/-- `LD B,D` (R120). -/
def execLdBD (s : State) : Out := loadReg .b .d s

/-- `LD B,E` (R120). -/
def execLdBE (s : State) : Out := loadReg .b .e s

/-- `LD B,H` (R120). -/
def execLdBH (s : State) : Out := loadReg .b .h s

/-- `LD B,L` (R120). -/
def execLdBL (s : State) : Out := loadReg .b .l s

/-- `LD B,A` (R120). -/
def execLdBA (s : State) : Out := loadReg .b .a s

/-- `LD C,B` (R120). -/
def execLdCB (s : State) : Out := loadReg .c .b s

/-- `LD C,C` (R120). -/
def execLdCC (s : State) : Out := loadReg .c .c s

/-- `LD C,D` (R120). -/
def execLdCD (s : State) : Out := loadReg .c .d s

/-- `LD C,E` (R120). -/
def execLdCE (s : State) : Out := loadReg .c .e s

/-- `LD C,H` (R120). -/
def execLdCH (s : State) : Out := loadReg .c .h s

/-- `LD C,L` (R120). -/
def execLdCL (s : State) : Out := loadReg .c .l s

/-- `LD C,A` (R120). -/
def execLdCA (s : State) : Out := loadReg .c .a s

/-- `LD D,B` (R120). -/
def execLdDB (s : State) : Out := loadReg .d .b s

/-- `LD D,C` (R120). -/
def execLdDC (s : State) : Out := loadReg .d .c s

/-- `LD D,D` (R120). -/
def execLdDD (s : State) : Out := loadReg .d .d s

/-- `LD D,E` (R120). -/
def execLdDE (s : State) : Out := loadReg .d .e s

/-- `LD D,H` (R120). -/
def execLdDH (s : State) : Out := loadReg .d .h s

/-- `LD D,L` (R120). -/
def execLdDL (s : State) : Out := loadReg .d .l s

/-- `LD D,A` (R120). -/
def execLdDA (s : State) : Out := loadReg .d .a s

/-- `LD E,B` (R120). -/
def execLdEB (s : State) : Out := loadReg .e .b s

/-- `LD E,C` (R120). -/
def execLdEC (s : State) : Out := loadReg .e .c s

/-- `LD E,D` (R120). -/
def execLdED (s : State) : Out := loadReg .e .d s

/-- `LD E,E` (R120). -/
def execLdEE (s : State) : Out := loadReg .e .e s

/-- `LD E,H` (R120). -/
def execLdEH (s : State) : Out := loadReg .e .h s

/-- `LD E,L` (R120). -/
def execLdEL (s : State) : Out := loadReg .e .l s

/-- `LD E,A` (R120). -/
def execLdEA (s : State) : Out := loadReg .e .a s

/-- `LD H,B` (R120). -/
def execLdHB (s : State) : Out := loadReg .h .b s

/-- `LD H,C` (R120). -/
def execLdHC (s : State) : Out := loadReg .h .c s

/-- `LD H,D` (R120). -/
def execLdHD (s : State) : Out := loadReg .h .d s

/-- `LD H,E` (R120). -/
def execLdHE (s : State) : Out := loadReg .h .e s

/-- `LD H,H` (R120). -/
def execLdHH (s : State) : Out := loadReg .h .h s

/-- `LD H,L` (R120). -/
def execLdHL (s : State) : Out := loadReg .h .l s

/-- `LD H,A` (R120). -/
def execLdHA (s : State) : Out := loadReg .h .a s

/-- `LD L,B` (R120). -/
def execLdLB (s : State) : Out := loadReg .l .b s

/-- `LD L,C` (R120). -/
def execLdLC (s : State) : Out := loadReg .l .c s

/-- `LD L,D` (R120). -/
def execLdLD (s : State) : Out := loadReg .l .d s

/-- `LD L,E` (R120). -/
def execLdLE (s : State) : Out := loadReg .l .e s

/-- `LD L,H` (R120). -/
def execLdLH (s : State) : Out := loadReg .l .h s

/-- `LD L,L` (R120). -/
def execLdLL (s : State) : Out := loadReg .l .l s

/-- `LD L,A` (R120). -/
def execLdLA (s : State) : Out := loadReg .l .a s

/-- `LD A,B` (R120). -/
def execLdAB (s : State) : Out := loadReg .a .b s

/-- `LD A,C` (R120). -/
def execLdAC (s : State) : Out := loadReg .a .c s

/-- `LD A,D` (R120). -/
def execLdAD (s : State) : Out := loadReg .a .d s

/-- `LD A,E` (R120). -/
def execLdAE (s : State) : Out := loadReg .a .e s

/-- `LD A,H` (R120). -/
def execLdAH (s : State) : Out := loadReg .a .h s

/-- `LD A,L` (R120). -/
def execLdAL (s : State) : Out := loadReg .a .l s

/-- `LD A,A` (R120). -/
def execLdAA (s : State) : Out := loadReg .a .a s

/-- `LD B,n` (R121). -/
def execLdBN (n : Byte) (s : State) : Out := loadImm .b n s

/-- `LD C,n` (R121). -/
def execLdCN (n : Byte) (s : State) : Out := loadImm .c n s

/-- `LD D,n` (R121). -/
def execLdDN (n : Byte) (s : State) : Out := loadImm .d n s

/-- `LD E,n` (R121). -/
def execLdEN (n : Byte) (s : State) : Out := loadImm .e n s

/-- `LD H,n` (R121). -/
def execLdHN (n : Byte) (s : State) : Out := loadImm .h n s

/-- `LD L,n` (R121). -/
def execLdLN (n : Byte) (s : State) : Out := loadImm .l n s

/-- `LD A,n` (R121). -/
def execLdAN (n : Byte) (s : State) : Out := loadImm .a n s

/-- `LD B,(HL)` (R122). -/
def execLdBAtHl (s : State) : Out := loadFrom .b s.cpu.hl s

/-- `LD C,(HL)` (R122). -/
def execLdCAtHl (s : State) : Out := loadFrom .c s.cpu.hl s

/-- `LD D,(HL)` (R122). -/
def execLdDAtHl (s : State) : Out := loadFrom .d s.cpu.hl s

/-- `LD E,(HL)` (R122). -/
def execLdEAtHl (s : State) : Out := loadFrom .e s.cpu.hl s

/-- `LD H,(HL)` (R122). -/
def execLdHAtHl (s : State) : Out := loadFrom .h s.cpu.hl s

/-- `LD L,(HL)` (R122). -/
def execLdLAtHl (s : State) : Out := loadFrom .l s.cpu.hl s

/-- `LD A,(HL)` (R122). -/
def execLdAAtHl (s : State) : Out := loadFrom .a s.cpu.hl s

/-- `LD (HL),B` (R123). -/
def execLdAtHlB (s : State) : Out := storeTo s.cpu.hl (s.cpu.reg .b) s

/-- `LD (HL),C` (R123). -/
def execLdAtHlC (s : State) : Out := storeTo s.cpu.hl (s.cpu.reg .c) s

/-- `LD (HL),D` (R123). -/
def execLdAtHlD (s : State) : Out := storeTo s.cpu.hl (s.cpu.reg .d) s

/-- `LD (HL),E` (R123). -/
def execLdAtHlE (s : State) : Out := storeTo s.cpu.hl (s.cpu.reg .e) s

/-- `LD (HL),H` (R123). -/
def execLdAtHlH (s : State) : Out := storeTo s.cpu.hl (s.cpu.reg .h) s

/-- `LD (HL),L` (R123). -/
def execLdAtHlL (s : State) : Out := storeTo s.cpu.hl (s.cpu.reg .l) s

/-- `LD (HL),A` (R123). -/
def execLdAtHlA (s : State) : Out := storeTo s.cpu.hl (s.cpu.reg .a) s

/-- `LD (HL),n` (R124). -/
def execLdAtHlN (n : Byte) (s : State) : Out := storeTo s.cpu.hl n s

/-- `LD A,(BC)` (R125). -/
def execLdAAtBc (s : State) : Out := loadFrom .a s.cpu.bc s

/-- `LD A,(DE)` (R126). -/
def execLdAAtDe (s : State) : Out := loadFrom .a s.cpu.de s

/-- `LD (BC),A` (R127). -/
def execLdAtBcA (s : State) : Out := storeTo s.cpu.bc s.cpu.a s

/-- `LD (DE),A` (R128). -/
def execLdAtDeA (s : State) : Out := storeTo s.cpu.de s.cpu.a s

/-- `LD A,(nn)` (R129). -/
def execLdAAtNn (nn : Word) (s : State) : Out := loadFrom .a nn s

/-- `LD (nn),A` (R130). -/
def execLdAtNnA (nn : Word) (s : State) : Out := storeTo nn s.cpu.a s

/-- `LDH A,(n)` (R131). -/
def execLdhAAtN (n : Byte) (s : State) : Out := loadFrom .a (ioAddr n) s

/-- `LDH (n),A` (R132). -/
def execLdhAtNA (n : Byte) (s : State) : Out := storeTo (ioAddr n) s.cpu.a s

/-- `LD A,(C)` (R133). -/
def execLdAAtC (s : State) : Out := loadFrom .a (ioAddr s.cpu.c) s

/-- `LD (C),A` (R134). -/
def execLdAtCA (s : State) : Out := storeTo (ioAddr s.cpu.c) s.cpu.a s

/-- `LD A,(HL+)` (R135). -/
def execLdAAtHlInc (s : State) : Out := loadAStepping 1#16 s

/-- `LD A,(HL-)` (R136). -/
def execLdAAtHlDec (s : State) : Out := loadAStepping (-1#16) s

/-- `LD (HL+),A` (R137). -/
def execLdAtHlIncA (s : State) : Out := storeAStepping 1#16 s

/-- `LD (HL-),A` (R138). -/
def execLdAtHlDecA (s : State) : Out := storeAStepping (-1#16) s

end Sys2Proof.Machine
end

