-- ==== Sys2Proof/Machine/System.lean ====
section
/-! DEFINITION. The system instructions (47_system.md R215 to R219) and the illegal bytes (30_encoding.md R113). -/

namespace Sys2Proof.Machine

/-! ## Shared shapes -/

/-- HALT's test (R216). -/
def haltTaken (s : State) : Bool := s.cpu.ime || (s.bus.params.eiDelay && !(s.cpu.eiPending == 0#2))

/-- HALT (R216): with interrupts disabled it is a one-byte no-op. -/
def haltCpu (s : State) : Out := if haltTaken s then .next (s.withCpu { s.cpu with halted := true }) else .next s

/-- DI (R218). -/
def disableInterrupts (s : State) : Out := .next (s.withCpu { s.cpu with ime := false, eiPending := 0#2 })

/-- EI (R219). -/
def enableInterrupts (s : State) : Out :=
  if !s.bus.params.eiDelay then .next (s.withCpu { s.cpu with ime := true })
  else if !s.cpu.ime then .next (s.withCpu { s.cpu with eiPending := 2#2 })
  else .next s

/-- STOP (R217): the refusal `Unmodelled` at the opcode's address, which is `pc - 1` after the opcode fetch. -/
def refuseStop (s : State) : Out :=
  .refused (.unmodelled (s.cpu.pc - 1#16) 0x10#8 { s with status := .unmodelled (s.cpu.pc - 1#16) 0x10#8 })

/-- An illegal byte (R113): the fault `IllegalOpcode` at the opcode's address, with no other state change. -/
def raiseIllegal (op : Byte) (s : State) : Out := raise (.illegalOpcode (s.cpu.pc - 1#16) op) s

/-! ## The instructions -/

/-- `NOP` (R215). -/
def execNop (s : State) : Out := .next s

/-- `HALT` (R216). -/
def execHalt (s : State) : Out := haltCpu s

/-- `STOP` (R217). -/
def execStop (s : State) : Out := refuseStop s

/-- `DI` (R218). -/
def execDi (s : State) : Out := disableInterrupts s

/-- `EI` (R219). -/
def execEi (s : State) : Out := enableInterrupts s

/-- An illegal byte (R113). -/
def execIllegalD3 (s : State) : Out := raiseIllegal 0xD3#8 s

/-- An illegal byte (R113). -/
def execIllegalDB (s : State) : Out := raiseIllegal 0xDB#8 s

/-- An illegal byte (R113). -/
def execIllegalDD (s : State) : Out := raiseIllegal 0xDD#8 s

/-- An illegal byte (R113). -/
def execIllegalE3 (s : State) : Out := raiseIllegal 0xE3#8 s

/-- An illegal byte (R113). -/
def execIllegalE4 (s : State) : Out := raiseIllegal 0xE4#8 s

/-- An illegal byte (R113). -/
def execIllegalEB (s : State) : Out := raiseIllegal 0xEB#8 s

/-- An illegal byte (R113). -/
def execIllegalEC (s : State) : Out := raiseIllegal 0xEC#8 s

/-- An illegal byte (R113). -/
def execIllegalED (s : State) : Out := raiseIllegal 0xED#8 s

/-- An illegal byte (R113). -/
def execIllegalF4 (s : State) : Out := raiseIllegal 0xF4#8 s

/-- An illegal byte (R113). -/
def execIllegalFC (s : State) : Out := raiseIllegal 0xFC#8 s

/-- An illegal byte (R113). -/
def execIllegalFD (s : State) : Out := raiseIllegal 0xFD#8 s

end Sys2Proof.Machine
end

