-- ==== Sys2Proof/Machine/Fetch.lean ====
section
/-! DEFINITION. Fetching an instruction (30_encoding.md R112), and placing one where the next step fetches it. -/

namespace Sys2Proof.Machine

/-- The boot latch after an opcode fetch at `addr` (10_state.md R35): cleared at and above 0x0100. Only the first byte of an
instruction counts, not the byte after the prefix (R112, assumption log 11). -/
def Bus.afterOpcodeFetch (addr : Word) (b : Bus) : Bus :=
  { b with booting := b.booting && decide (addr.toNat < 0x100) }

/-- The opcode fetch (R112): `Fetch8()` and the boot latch, then the rest with the byte. -/
def fetchOpcodeThen (s : State) (rest : Byte → State → Out) : Out :=
  fetch8Then s fun op s' => rest op (s'.withBus (s'.bus.afterOpcodeFetch s.cpu.pc))

/-- The instruction at pc with its operand bytes (R112), then the rest. Every rule fetches its operand bytes before its first other
effect, so they are fetched here (assumption log 10). -/
def fetchThen (s : State) (rest : Instr → State → Out) : Out :=
  fetchOpcodeThen s fun op s =>
    match decodeOpcode op with
    | .f1 i => rest i s
    | .f2 make => fetch8Then s fun n s => rest (make n) s
    | .f3 make => fetch16Then s fun nn s => rest (make nn) s

/-! ## Placing code -/

/-- Whether the byte at an address is storage that a fetch reads whatever the PPU does and that `poke` can set. -/
def Bus.pokeable (addr : Word) (b : Bus) : Bool :=
  match route addr with
  | .romFixed off => !(b.booting && decide (off < 0x100))
  | .romSwitched _ => true
  | .wram _ => true
  | .hram _ => true
  | _ => false

/-- The bus with the storage byte that a read of the address reaches set from outside, as a load of the cartridge or of memory does;
no CPU write does this to ROM (R70). -/
def Bus.poke (addr : Word) (v : Byte) (b : Bus) : Bus :=
  match route addr with
  | .romFixed off => { b with cart := { b.cart with rom := b.cart.rom.write off v } }
  | .romSwitched off => { b with cart := { b.cart with rom := b.cart.rom.write (b.cart.romBank * 0x4000 + off) v } }
  | .wram off => { b with wram := b.wram.write off v }
  | .hram off => { b with hram := b.hram.write off v }
  | _ => b

/-- The bytes stored at an address and after it. -/
def Bus.pokeBytes (addr : Word) (bytes : List Byte) (b : Bus) : Bus :=
  match bytes with
  | [] => b
  | v :: rest => Bus.pokeBytes (addr + 1#16) rest (b.poke addr v)

/-- Whether the three bytes from an address on can be placed. -/
def Bus.pokeable3 (addr : Word) (b : Bus) : Bool :=
  b.pokeable addr && b.pokeable (addr + 1#16) && b.pokeable (addr + 2#16)

/-- The state with bytes placed where the next step fetches: at pc where pc stands in ROM, work RAM or high RAM, else at the start
of work RAM with pc moved there. The machine is made to run and not be halted, since a halted step fetches nothing (R231). -/
def State.placeCode (bytes : List Byte) (s : State) : State :=
  let at_ : Word := if s.bus.pokeable3 s.cpu.pc then s.cpu.pc else 0xC000#16
  { s with
    cpu := { s.cpu with pc := at_, halted := false }
    bus := s.bus.pokeBytes at_ bytes
    status := .running }

end Sys2Proof.Machine
end

