-- ==== Sys2Proof/Machine/Interrupt.lean ====
section
/-! DEFINITION. What a step does around its instruction (60_exceptions.md R231): the EI delay, the update, the interrupt poll and
service, and the step's result. -/

namespace Sys2Proof.Machine

/-- The index of the lowest set bit among bits 0 to 4 (R231, R255). -/
def lowestBit (p : Byte) : Option (Fin 5) :=
  if p.getLsbD 0 then some 0
  else if p.getLsbD 1 then some 1
  else if p.getLsbD 2 then some 2
  else if p.getLsbD 3 then some 3
  else if p.getLsbD 4 then some 4
  else none

/-- The interrupt the poll would service: the lowest set bit of `IF & IE & 0x1F` (R231, R252). -/
def Bus.pending (b : Bus) : Option (Fin 5) := lowestBit (b.intFlag &&& b.intEnable)

/-- The two `ei_pending` lines of the step (R231, R219): only with EI_DELAY. -/
def State.eiTick (s : State) : State :=
  if s.bus.params.eiDelay && !(s.cpu.eiPending == 0#2) then
    s.withCpu { s.cpu with eiPending := s.cpu.eiPending - 1#2, ime := s.cpu.ime || s.cpu.eiPending - 1#2 == 0#2 }
  else s

/-- `update(n)` on the whole machine (R240). -/
def State.update (n : Nat) (s : State) : State := s.withBus (s.bus.update n)

/-- The end of a step: its result is recorded and added to the running total (R234). -/
def State.close (result : Nat) (s : State) : State := { s with tally := result, cycles := s.cycles + result }

/-- The poll and what it leads to (R231, R252): the service cost is updated separately and added to the step's result. -/
def poll (s : State) : Out :=
  match s.cpu.ime, s.bus.pending with
  | true, some i => serviceThen i s fun s' => .next ((s'.update s'.tally).close (s.tally + s'.tally))
  | _, _ => .next (s.close s.tally)

/-- The step after its instruction or halted tick (R231). -/
def finishStep (s : State) : Out := poll ((s.eiTick).update s.tally)

/-- Where a step begins: the tally is 0 (R231). -/
def State.beginStep (s : State) : State := { s with tally := 0 }

/-- A stopped machine takes no step: it answers its stop again (R29, R236, assumption log 7). -/
def Status.stopOr (status : Status) (s : State) (running : Out) : Out :=
  match status with
  | .running => running
  | .faulted kind => .fault (kind.toFault s)
  | .unmodelled addr op => .refused (.unmodelled addr op s)

/-- What follows an instruction: the end of the step after a next state, the stop itself otherwise (R237). -/
def afterInstruction (o : Out) : Out :=
  match o with
  | .next s => finishStep s
  | .fault r => .fault r
  | .refused r => .refused r

end Sys2Proof.Machine
end

