-- ==== Sys2Proof/Machine/Step.lean ====
section
/-! DEFINITION. The step (60_exceptions.md R231). -/

namespace Sys2Proof.Machine

/-- One step (R231): a halted tick or one instruction, then the end of the step. -/
def step (s : State) : Host.Outcome State Fault Refusal :=
  s.status.stopOr s
    (if s.cpu.halted then finishStep (s.beginStep.tick 4)
     else fetchThen s.beginStep fun i s => afterInstruction (exec i s))

/-- The state with a word of the opcode table placed where the next step fetches its instruction (assumption log 4). -/
def State.withFetchWord (s : State) (nbits w : Nat) : State := s.placeCode (tableBytes nbits w)

end Sys2Proof.Machine
end

