-- ==== Sys2Proof/Machine/Construct.lean ====
section
/-! DEFINITION. The launch and the host's `save` (60_exceptions.md R287): header validation (20_memory.md R82, R83), the save file
(70_reset_and_hazards.md R303), the reset state (R300), and ERAM handed back. -/

namespace Sys2Proof.Machine

/-- Why no machine is built (R82, R303): "abort construction, no partial state". -/
inductive LoadError where
  /-- `len(ROM) < 0x150` (R82 check 1). -/
  | romTooShort
  /-- The header checksum differs from byte 0x014D (R82 check 2). -/
  | badChecksum
  /-- The declared ROM size is not the file's length (R82 check 3). -/
  | sizeMismatch
  /-- Byte 0x0148 or 0x0149 is no code of R83 (R82 check 4). -/
  | unknownSizeCode
  /-- The save file's length is not `RAM_SIZE` (R303). -/
  | badSaveLength
  deriving DecidableEq, Repr

/-- What the host sends with `construct` (R287, 00_scope.md R10). -/
structure LaunchInput where
  params : Params
  rom : List Byte
  /-- `SAVE`, or none. -/
  save : Option (List Byte)
  /-- `BOOT_IMAGE`: 256 bytes, or none. -/
  bootImage : Option (Vector Byte 256)
  /-- `INIT_REGS`. -/
  regs : InitRegs
  /-- OBP0 and OBP1, free in the no-boot configuration (10_state.md R48). -/
  obp0 : Byte
  obp1 : Byte
  /-- `INIT_MEM`. -/
  vram : Vector Byte 0x2000
  oam : Vector Byte 160
  wram : Vector Byte 0x2000
  hram : Vector Byte 127

/-- The header checksum (R82): `x = x - ROM[i] - 1` over 0x0134 to 0x014C. -/
def headerChecksum (rom : List Byte) : Byte :=
  ((rom.drop 0x134).take 25).foldl (fun x v => x - v - 1#8) 0#8

/-- A byte of the image by its offset. -/
def romByte (rom : List Byte) (k : Nat) : Byte := rom.getD k 0#8

/-- The ROM-size code of header byte 0x0148, if it is one of R83. -/
def romSizeCode (code : Nat) : Option (Fin 9) := if h : code < 9 then some ⟨code, h⟩ else none

/-- The bytes of external RAM a launch starts with: the save file, or zeros (10_state.md R52). -/
def initialEram (save : Option (List Byte)) : Memory := Memory.ofBytes (save.getD [])

/-- The checks of R82 and R303; both sizes if they pass. -/
def validate (input : LaunchInput) : Except LoadError (Fin 9 × RamSize) :=
  if input.rom.length < 0x150 then .error .romTooShort
  else if headerChecksum input.rom ≠ romByte input.rom 0x14D then .error .badChecksum
  else
    match romSizeCode (romByte input.rom 0x148).toNat, RamSize.ofCode (romByte input.rom 0x149).toNat with
    | some romCode, some ramSize =>
      if input.rom.length ≠ 0x8000 <<< romCode.val then .error .sizeMismatch
      else if input.save.any (fun bytes => !(bytes.length == ramSize.bytes)) then .error .badSaveLength
      else .ok (romCode, ramSize)
    | _, _ => .error .unknownSizeCode

/-- `construct` (R287): a machine in the reset state of R300, or a load error. Byte 0x0147 changes nothing (20_memory.md R84). -/
def construct (input : LaunchInput) : Except LoadError State :=
  match validate input with
  | .error e => .error e
  | .ok (romCode, ramSize) =>
    .ok (State.atReset
      { params := input.params
        rom := Memory.ofBytes input.rom
        romCode := romCode
        eram := initialEram input.save
        ramSize := ramSize
        bootImage := input.bootImage.map fun image => Memory.ofBytes image.toList
        regs := input.regs
        obp0 := input.obp0
        obp1 := input.obp1
        vram := Memory.ofBytes input.vram.toList
        oam := Memory.ofBytes input.oam.toList
        wram := Memory.ofBytes input.wram.toList
        hram := Memory.ofBytes input.hram.toList })

/-- `save` (R287): ERAM as one byte string. -/
def State.saveImage (s : State) : List Byte := s.bus.cart.eram.toBytes s.bus.cart.ramSize.bytes

end Sys2Proof.Machine
end

