-- ==== Sys2Proof/Machine/OpcodeTable.lean ====
section
/-! DEFINITION. Three columns of spec/opcode_table.json, copied row by row: the flags, the cycles and the condition field of every
instruction. No meaning uses them; the statements hold the meanings against them. -/

namespace Sys2Proof.Machine

/-- One letter of a row's flags column. -/
inductive FlagRule where
  /-- `-`: the flag is not written. -/
  | kept
  /-- `0`. -/
  | cleared
  /-- `1`. -/
  | set
  /-- The flag's own letter: a result decides it. -/
  | computed
  deriving DecidableEq, Repr

/-- The flags column, in the column's order Z N H C. -/
structure FlagColumn where
  z : FlagRule
  n : FlagRule
  h : FlagRule
  c : FlagRule
  deriving DecidableEq, Repr

/-- The cycles column: the counts of a row not taken and taken, equal for an unconditional row (70_reset_and_hazards.md R316). -/
structure CycleColumn where
  access : Nat
  accessTaken : Nat
  hardware : Nat
  hardwareTaken : Nat
  deriving DecidableEq, Repr

end Sys2Proof.Machine

namespace Sys2Proof

open Sys2Proof.Machine

/-- The flags column of the table. -/
def Instr.flagColumn (i : Instr) : FlagColumn :=
  match i with
  | .nop | .ldBcNn _ | .ldAtBcA | .incBc | .ldBN _ | .ldAtNnSp _ | .ldAAtBc | .decBc | .ldCN _ | .stop | .ldDeNn _ | .ldAtDeA
  | .incDe | .ldDN _ | .jrDisp _ | .ldAAtDe | .decDe | .ldEN _ | .jrNzDisp _ | .ldHlNn _ | .ldAtHlIncA | .incHl | .ldHN _
  | .jrZDisp _ | .ldAAtHlInc | .decHl | .ldLN _ | .jrNcDisp _ | .ldSpNn _ | .ldAtHlDecA | .incSp | .ldAtHlN _ | .jrCyDisp _
  | .ldAAtHlDec | .decSp | .ldAN _ | .ldBB | .ldBC | .ldBD | .ldBE | .ldBH | .ldBL | .ldBAtHl | .ldBA | .ldCB | .ldCC | .ldCD
  | .ldCE | .ldCH | .ldCL | .ldCAtHl | .ldCA | .ldDB | .ldDC | .ldDD | .ldDE | .ldDH | .ldDL | .ldDAtHl | .ldDA | .ldEB
  | .ldEC | .ldED | .ldEE | .ldEH | .ldEL | .ldEAtHl | .ldEA | .ldHB | .ldHC | .ldHD | .ldHE | .ldHH | .ldHL | .ldHAtHl
  | .ldHA | .ldLB | .ldLC | .ldLD | .ldLE | .ldLH | .ldLL | .ldLAtHl | .ldLA | .ldAtHlB | .ldAtHlC | .ldAtHlD | .ldAtHlE
  | .ldAtHlH | .ldAtHlL | .halt | .ldAtHlA | .ldAB | .ldAC | .ldAD | .ldAE | .ldAH | .ldAL | .ldAAtHl | .ldAA | .retNz
  | .popBc | .jpNzNn _ | .jpNn _ | .callNzNn _ | .pushBc | .rst00 | .retZ | .ret | .jpZNn _ | .prefixCb _ | .callZNn _
  | .callNn _ | .rst08 | .retNc | .popDe | .jpNcNn _ | .illegalD3 | .callNcNn _ | .pushDe | .rst10 | .retCy | .reti
  | .jpCyNn _ | .illegalDB | .callCyNn _ | .illegalDD | .rst18 | .ldhAtNA _ | .popHl | .ldAtCA | .illegalE3 | .illegalE4
  | .pushHl | .rst20 | .jpHl | .ldAtNnA _ | .illegalEB | .illegalEC | .illegalED | .rst28 | .ldhAAtN _ | .ldAAtC | .di
  | .illegalF4 | .pushAf | .rst30 | .ldSpHl | .ldAAtNn _ | .ei | .illegalFC | .illegalFD | .rst38 | .cbRes0B | .cbRes0C
  | .cbRes0D | .cbRes0E | .cbRes0H | .cbRes0L | .cbRes0AtHl | .cbRes0A | .cbRes1B | .cbRes1C | .cbRes1D | .cbRes1E | .cbRes1H
  | .cbRes1L | .cbRes1AtHl | .cbRes1A | .cbRes2B | .cbRes2C | .cbRes2D | .cbRes2E | .cbRes2H | .cbRes2L | .cbRes2AtHl
  | .cbRes2A | .cbRes3B | .cbRes3C | .cbRes3D | .cbRes3E | .cbRes3H | .cbRes3L | .cbRes3AtHl | .cbRes3A | .cbRes4B | .cbRes4C
  | .cbRes4D | .cbRes4E | .cbRes4H | .cbRes4L | .cbRes4AtHl | .cbRes4A | .cbRes5B | .cbRes5C | .cbRes5D | .cbRes5E | .cbRes5H
  | .cbRes5L | .cbRes5AtHl | .cbRes5A | .cbRes6B | .cbRes6C | .cbRes6D | .cbRes6E | .cbRes6H | .cbRes6L | .cbRes6AtHl
  | .cbRes6A | .cbRes7B | .cbRes7C | .cbRes7D | .cbRes7E | .cbRes7H | .cbRes7L | .cbRes7AtHl | .cbRes7A | .cbSet0B | .cbSet0C
  | .cbSet0D | .cbSet0E | .cbSet0H | .cbSet0L | .cbSet0AtHl | .cbSet0A | .cbSet1B | .cbSet1C | .cbSet1D | .cbSet1E | .cbSet1H
  | .cbSet1L | .cbSet1AtHl | .cbSet1A | .cbSet2B | .cbSet2C | .cbSet2D | .cbSet2E | .cbSet2H | .cbSet2L | .cbSet2AtHl
  | .cbSet2A | .cbSet3B | .cbSet3C | .cbSet3D | .cbSet3E | .cbSet3H | .cbSet3L | .cbSet3AtHl | .cbSet3A | .cbSet4B | .cbSet4C
  | .cbSet4D | .cbSet4E | .cbSet4H | .cbSet4L | .cbSet4AtHl | .cbSet4A | .cbSet5B | .cbSet5C | .cbSet5D | .cbSet5E | .cbSet5H
  | .cbSet5L | .cbSet5AtHl | .cbSet5A | .cbSet6B | .cbSet6C | .cbSet6D | .cbSet6E | .cbSet6H | .cbSet6L | .cbSet6AtHl
  | .cbSet6A | .cbSet7B | .cbSet7C | .cbSet7D | .cbSet7E | .cbSet7H | .cbSet7L | .cbSet7AtHl | .cbSet7A
    => ⟨.kept, .kept, .kept, .kept⟩
  | .incB | .incC | .incD | .incE | .incH | .incL | .incAtHl | .incA => ⟨.computed, .cleared, .computed, .kept⟩
  | .decB | .decC | .decD | .decE | .decH | .decL | .decAtHl | .decA => ⟨.computed, .set, .computed, .kept⟩
  | .rlca | .rrca | .rla | .rra => ⟨.cleared, .cleared, .cleared, .computed⟩
  | .addHlBc | .addHlDe | .addHlHl | .addHlSp => ⟨.kept, .cleared, .computed, .computed⟩
  | .daa => ⟨.computed, .kept, .cleared, .computed⟩
  | .cplA => ⟨.kept, .set, .set, .kept⟩
  | .scf => ⟨.kept, .cleared, .cleared, .set⟩
  | .ccf => ⟨.kept, .cleared, .cleared, .computed⟩
  | .addAB | .addAC | .addAD | .addAE | .addAH | .addAL | .addAAtHl | .addAA | .adcAB | .adcAC | .adcAD | .adcAE | .adcAH
  | .adcAL | .adcAAtHl | .adcAA | .addAN _ | .adcAN _ => ⟨.computed, .cleared, .computed, .computed⟩
  | .subB | .subC | .subD | .subE | .subH | .subL | .subAtHl | .subA | .sbcAB | .sbcAC | .sbcAD | .sbcAE | .sbcAH | .sbcAL
  | .sbcAAtHl | .sbcAA | .cpB | .cpC | .cpD | .cpE | .cpH | .cpL | .cpAtHl | .cpA | .subN _ | .sbcAN _ | .cpN _
    => ⟨.computed, .set, .computed, .computed⟩
  | .andB | .andC | .andD | .andE | .andH | .andL | .andAtHl | .andA | .andN _ => ⟨.computed, .cleared, .set, .cleared⟩
  | .xorB | .xorC | .xorD | .xorE | .xorH | .xorL | .xorAtHl | .xorA | .orB | .orC | .orD | .orE | .orH | .orL | .orAtHl
  | .orA | .xorN _ | .orN _ | .cbSwapB | .cbSwapC | .cbSwapD | .cbSwapE | .cbSwapH | .cbSwapL | .cbSwapAtHl | .cbSwapA
    => ⟨.computed, .cleared, .cleared, .cleared⟩
  | .addSpDisp _ | .ldHlSpDisp _ => ⟨.cleared, .cleared, .computed, .computed⟩
  | .popAf => ⟨.computed, .computed, .computed, .computed⟩
  | .cbRlcB | .cbRlcC | .cbRlcD | .cbRlcE | .cbRlcH | .cbRlcL | .cbRlcAtHl | .cbRlcA | .cbRrcB | .cbRrcC | .cbRrcD | .cbRrcE
  | .cbRrcH | .cbRrcL | .cbRrcAtHl | .cbRrcA | .cbRlB | .cbRlC | .cbRlD | .cbRlE | .cbRlH | .cbRlL | .cbRlAtHl | .cbRlA
  | .cbRrB | .cbRrC | .cbRrD | .cbRrE | .cbRrH | .cbRrL | .cbRrAtHl | .cbRrA | .cbSlaB | .cbSlaC | .cbSlaD | .cbSlaE
  | .cbSlaH | .cbSlaL | .cbSlaAtHl | .cbSlaA | .cbSraB | .cbSraC | .cbSraD | .cbSraE | .cbSraH | .cbSraL | .cbSraAtHl
  | .cbSraA | .cbSrlB | .cbSrlC | .cbSrlD | .cbSrlE | .cbSrlH | .cbSrlL | .cbSrlAtHl | .cbSrlA
    => ⟨.computed, .cleared, .cleared, .computed⟩
  | .cbBit0B | .cbBit0C | .cbBit0D | .cbBit0E | .cbBit0H | .cbBit0L | .cbBit0AtHl | .cbBit0A | .cbBit1B | .cbBit1C | .cbBit1D
  | .cbBit1E | .cbBit1H | .cbBit1L | .cbBit1AtHl | .cbBit1A | .cbBit2B | .cbBit2C | .cbBit2D | .cbBit2E | .cbBit2H | .cbBit2L
  | .cbBit2AtHl | .cbBit2A | .cbBit3B | .cbBit3C | .cbBit3D | .cbBit3E | .cbBit3H | .cbBit3L | .cbBit3AtHl | .cbBit3A
  | .cbBit4B | .cbBit4C | .cbBit4D | .cbBit4E | .cbBit4H | .cbBit4L | .cbBit4AtHl | .cbBit4A | .cbBit5B | .cbBit5C | .cbBit5D
  | .cbBit5E | .cbBit5H | .cbBit5L | .cbBit5AtHl | .cbBit5A | .cbBit6B | .cbBit6C | .cbBit6D | .cbBit6E | .cbBit6H | .cbBit6L
  | .cbBit6AtHl | .cbBit6A | .cbBit7B | .cbBit7C | .cbBit7D | .cbBit7E | .cbBit7H | .cbBit7L | .cbBit7AtHl | .cbBit7A
    => ⟨.computed, .cleared, .set, .kept⟩

/-- The cycles column of the table; `none` for STOP and the illegal bytes, whose run ends, and for the prefix row, which refers to
the extended rows. -/
def Instr.cycleColumn (i : Instr) : Option CycleColumn :=
  match i with
  | .nop | .incB | .decB | .rlca | .incC | .decC | .rrca | .incD | .decD | .rla | .incE | .decE | .rra | .incH | .decH | .daa
  | .incL | .decL | .cplA | .scf | .incA | .decA | .ccf | .ldBB | .ldBC | .ldBD | .ldBE | .ldBH | .ldBL | .ldBA | .ldCB
  | .ldCC | .ldCD | .ldCE | .ldCH | .ldCL | .ldCA | .ldDB | .ldDC | .ldDD | .ldDE | .ldDH | .ldDL | .ldDA | .ldEB | .ldEC
  | .ldED | .ldEE | .ldEH | .ldEL | .ldEA | .ldHB | .ldHC | .ldHD | .ldHE | .ldHH | .ldHL | .ldHA | .ldLB | .ldLC | .ldLD
  | .ldLE | .ldLH | .ldLL | .ldLA | .halt | .ldAB | .ldAC | .ldAD | .ldAE | .ldAH | .ldAL | .ldAA | .addAB | .addAC | .addAD
  | .addAE | .addAH | .addAL | .addAA | .adcAB | .adcAC | .adcAD | .adcAE | .adcAH | .adcAL | .adcAA | .subB | .subC | .subD
  | .subE | .subH | .subL | .subA | .sbcAB | .sbcAC | .sbcAD | .sbcAE | .sbcAH | .sbcAL | .sbcAA | .andB | .andC | .andD
  | .andE | .andH | .andL | .andA | .xorB | .xorC | .xorD | .xorE | .xorH | .xorL | .xorA | .orB | .orC | .orD | .orE | .orH
  | .orL | .orA | .cpB | .cpC | .cpD | .cpE | .cpH | .cpL | .cpA | .jpHl | .di | .ei => some ⟨4, 4, 4, 4⟩
  | .ldBcNn _ | .ldDeNn _ | .ldHlNn _ | .ldSpNn _ | .incAtHl | .decAtHl | .ldAtHlN _ | .popBc | .popDe | .ldhAtNA _ | .popHl
  | .ldhAAtN _ | .popAf | .cbBit0AtHl | .cbBit1AtHl | .cbBit2AtHl | .cbBit3AtHl | .cbBit4AtHl | .cbBit5AtHl | .cbBit6AtHl
  | .cbBit7AtHl => some ⟨12, 12, 12, 12⟩
  | .ldAtBcA | .ldBN _ | .ldAAtBc | .ldCN _ | .ldAtDeA | .ldDN _ | .ldAAtDe | .ldEN _ | .ldAtHlIncA | .ldHN _ | .ldAAtHlInc
  | .ldLN _ | .ldAtHlDecA | .ldAAtHlDec | .ldAN _ | .ldBAtHl | .ldCAtHl | .ldDAtHl | .ldEAtHl | .ldHAtHl | .ldLAtHl
  | .ldAtHlB | .ldAtHlC | .ldAtHlD | .ldAtHlE | .ldAtHlH | .ldAtHlL | .ldAtHlA | .ldAAtHl | .addAAtHl | .adcAAtHl | .subAtHl
  | .sbcAAtHl | .andAtHl | .xorAtHl | .orAtHl | .cpAtHl | .addAN _ | .adcAN _ | .subN _ | .sbcAN _ | .ldAtCA | .andN _
  | .xorN _ | .ldAAtC | .orN _ | .cpN _ | .cbRlcB | .cbRlcC | .cbRlcD | .cbRlcE | .cbRlcH | .cbRlcL | .cbRlcA | .cbRrcB
  | .cbRrcC | .cbRrcD | .cbRrcE | .cbRrcH | .cbRrcL | .cbRrcA | .cbRlB | .cbRlC | .cbRlD | .cbRlE | .cbRlH | .cbRlL | .cbRlA
  | .cbRrB | .cbRrC | .cbRrD | .cbRrE | .cbRrH | .cbRrL | .cbRrA | .cbSlaB | .cbSlaC | .cbSlaD | .cbSlaE | .cbSlaH | .cbSlaL
  | .cbSlaA | .cbSraB | .cbSraC | .cbSraD | .cbSraE | .cbSraH | .cbSraL | .cbSraA | .cbSwapB | .cbSwapC | .cbSwapD | .cbSwapE
  | .cbSwapH | .cbSwapL | .cbSwapA | .cbSrlB | .cbSrlC | .cbSrlD | .cbSrlE | .cbSrlH | .cbSrlL | .cbSrlA | .cbBit0B
  | .cbBit0C | .cbBit0D | .cbBit0E | .cbBit0H | .cbBit0L | .cbBit0A | .cbBit1B | .cbBit1C | .cbBit1D | .cbBit1E | .cbBit1H
  | .cbBit1L | .cbBit1A | .cbBit2B | .cbBit2C | .cbBit2D | .cbBit2E | .cbBit2H | .cbBit2L | .cbBit2A | .cbBit3B | .cbBit3C
  | .cbBit3D | .cbBit3E | .cbBit3H | .cbBit3L | .cbBit3A | .cbBit4B | .cbBit4C | .cbBit4D | .cbBit4E | .cbBit4H | .cbBit4L
  | .cbBit4A | .cbBit5B | .cbBit5C | .cbBit5D | .cbBit5E | .cbBit5H | .cbBit5L | .cbBit5A | .cbBit6B | .cbBit6C | .cbBit6D
  | .cbBit6E | .cbBit6H | .cbBit6L | .cbBit6A | .cbBit7B | .cbBit7C | .cbBit7D | .cbBit7E | .cbBit7H | .cbBit7L | .cbBit7A
  | .cbRes0B | .cbRes0C | .cbRes0D | .cbRes0E | .cbRes0H | .cbRes0L | .cbRes0A | .cbRes1B | .cbRes1C | .cbRes1D | .cbRes1E
  | .cbRes1H | .cbRes1L | .cbRes1A | .cbRes2B | .cbRes2C | .cbRes2D | .cbRes2E | .cbRes2H | .cbRes2L | .cbRes2A | .cbRes3B
  | .cbRes3C | .cbRes3D | .cbRes3E | .cbRes3H | .cbRes3L | .cbRes3A | .cbRes4B | .cbRes4C | .cbRes4D | .cbRes4E | .cbRes4H
  | .cbRes4L | .cbRes4A | .cbRes5B | .cbRes5C | .cbRes5D | .cbRes5E | .cbRes5H | .cbRes5L | .cbRes5A | .cbRes6B | .cbRes6C
  | .cbRes6D | .cbRes6E | .cbRes6H | .cbRes6L | .cbRes6A | .cbRes7B | .cbRes7C | .cbRes7D | .cbRes7E | .cbRes7H | .cbRes7L
  | .cbRes7A | .cbSet0B | .cbSet0C | .cbSet0D | .cbSet0E | .cbSet0H | .cbSet0L | .cbSet0A | .cbSet1B | .cbSet1C | .cbSet1D
  | .cbSet1E | .cbSet1H | .cbSet1L | .cbSet1A | .cbSet2B | .cbSet2C | .cbSet2D | .cbSet2E | .cbSet2H | .cbSet2L | .cbSet2A
  | .cbSet3B | .cbSet3C | .cbSet3D | .cbSet3E | .cbSet3H | .cbSet3L | .cbSet3A | .cbSet4B | .cbSet4C | .cbSet4D | .cbSet4E
  | .cbSet4H | .cbSet4L | .cbSet4A | .cbSet5B | .cbSet5C | .cbSet5D | .cbSet5E | .cbSet5H | .cbSet5L | .cbSet5A | .cbSet6B
  | .cbSet6C | .cbSet6D | .cbSet6E | .cbSet6H | .cbSet6L | .cbSet6A | .cbSet7B | .cbSet7C | .cbSet7D | .cbSet7E | .cbSet7H
  | .cbSet7L | .cbSet7A => some ⟨8, 8, 8, 8⟩
  | .incBc | .addHlBc | .decBc | .incDe | .addHlDe | .decDe | .incHl | .addHlHl | .decHl | .incSp | .addHlSp | .decSp
  | .ldSpHl => some ⟨4, 4, 8, 8⟩
  | .ldAtNnSp _ => some ⟨20, 20, 20, 20⟩
  | .stop | .prefixCb _ | .illegalD3 | .illegalDB | .illegalDD | .illegalE3 | .illegalE4 | .illegalEB | .illegalEC
  | .illegalED | .illegalF4 | .illegalFC | .illegalFD => none
  | .jrDisp _ | .ldHlSpDisp _ => some ⟨8, 8, 12, 12⟩
  | .jrNzDisp _ | .jrZDisp _ | .jrNcDisp _ | .jrCyDisp _ => some ⟨8, 8, 8, 12⟩
  | .retNz | .retZ | .retNc | .retCy => some ⟨4, 12, 8, 20⟩
  | .jpNzNn _ | .jpZNn _ | .jpNcNn _ | .jpCyNn _ => some ⟨12, 12, 12, 16⟩
  | .jpNn _ | .pushBc | .rst00 | .ret | .rst08 | .pushDe | .rst10 | .reti | .rst18 | .pushHl | .rst20 | .rst28 | .pushAf
  | .rst30 | .rst38 => some ⟨12, 12, 16, 16⟩
  | .callNzNn _ | .callZNn _ | .callNcNn _ | .callCyNn _ => some ⟨12, 20, 12, 24⟩
  | .callNn _ => some ⟨20, 20, 24, 24⟩
  | .addSpDisp _ => some ⟨8, 8, 16, 16⟩
  | .ldAtNnA _ | .ldAAtNn _ | .cbRlcAtHl | .cbRrcAtHl | .cbRlAtHl | .cbRrAtHl | .cbSlaAtHl | .cbSraAtHl | .cbSwapAtHl
  | .cbSrlAtHl | .cbRes0AtHl | .cbRes1AtHl | .cbRes2AtHl | .cbRes3AtHl | .cbRes4AtHl | .cbRes5AtHl | .cbRes6AtHl
  | .cbRes7AtHl | .cbSet0AtHl | .cbSet1AtHl | .cbSet2AtHl | .cbSet3AtHl | .cbSet4AtHl | .cbSet5AtHl | .cbSet6AtHl
  | .cbSet7AtHl => some ⟨16, 16, 16, 16⟩

/-- The condition field of the table's conditional rows. -/
def Instr.condition (i : Instr) : Option Cond :=
  match i with
  | .nop | .ldBcNn _ | .ldAtBcA | .incBc | .incB | .decB | .ldBN _ | .rlca | .ldAtNnSp _ | .addHlBc | .ldAAtBc | .decBc
  | .incC | .decC | .ldCN _ | .rrca | .stop | .ldDeNn _ | .ldAtDeA | .incDe | .incD | .decD | .ldDN _ | .rla | .jrDisp _
  | .addHlDe | .ldAAtDe | .decDe | .incE | .decE | .ldEN _ | .rra | .ldHlNn _ | .ldAtHlIncA | .incHl | .incH | .decH
  | .ldHN _ | .daa | .addHlHl | .ldAAtHlInc | .decHl | .incL | .decL | .ldLN _ | .cplA | .ldSpNn _ | .ldAtHlDecA | .incSp
  | .incAtHl | .decAtHl | .ldAtHlN _ | .scf | .addHlSp | .ldAAtHlDec | .decSp | .incA | .decA | .ldAN _ | .ccf | .ldBB
  | .ldBC | .ldBD | .ldBE | .ldBH | .ldBL | .ldBAtHl | .ldBA | .ldCB | .ldCC | .ldCD | .ldCE | .ldCH | .ldCL | .ldCAtHl
  | .ldCA | .ldDB | .ldDC | .ldDD | .ldDE | .ldDH | .ldDL | .ldDAtHl | .ldDA | .ldEB | .ldEC | .ldED | .ldEE | .ldEH | .ldEL
  | .ldEAtHl | .ldEA | .ldHB | .ldHC | .ldHD | .ldHE | .ldHH | .ldHL | .ldHAtHl | .ldHA | .ldLB | .ldLC | .ldLD | .ldLE
  | .ldLH | .ldLL | .ldLAtHl | .ldLA | .ldAtHlB | .ldAtHlC | .ldAtHlD | .ldAtHlE | .ldAtHlH | .ldAtHlL | .halt | .ldAtHlA
  | .ldAB | .ldAC | .ldAD | .ldAE | .ldAH | .ldAL | .ldAAtHl | .ldAA | .addAB | .addAC | .addAD | .addAE | .addAH | .addAL
  | .addAAtHl | .addAA | .adcAB | .adcAC | .adcAD | .adcAE | .adcAH | .adcAL | .adcAAtHl | .adcAA | .subB | .subC | .subD
  | .subE | .subH | .subL | .subAtHl | .subA | .sbcAB | .sbcAC | .sbcAD | .sbcAE | .sbcAH | .sbcAL | .sbcAAtHl | .sbcAA
  | .andB | .andC | .andD | .andE | .andH | .andL | .andAtHl | .andA | .xorB | .xorC | .xorD | .xorE | .xorH | .xorL
  | .xorAtHl | .xorA | .orB | .orC | .orD | .orE | .orH | .orL | .orAtHl | .orA | .cpB | .cpC | .cpD | .cpE | .cpH | .cpL
  | .cpAtHl | .cpA | .popBc | .jpNn _ | .pushBc | .addAN _ | .rst00 | .ret | .prefixCb _ | .callNn _ | .adcAN _ | .rst08
  | .popDe | .illegalD3 | .pushDe | .subN _ | .rst10 | .reti | .illegalDB | .illegalDD | .sbcAN _ | .rst18 | .ldhAtNA _
  | .popHl | .ldAtCA | .illegalE3 | .illegalE4 | .pushHl | .andN _ | .rst20 | .addSpDisp _ | .jpHl | .ldAtNnA _ | .illegalEB
  | .illegalEC | .illegalED | .xorN _ | .rst28 | .ldhAAtN _ | .popAf | .ldAAtC | .di | .illegalF4 | .pushAf | .orN _ | .rst30
  | .ldHlSpDisp _ | .ldSpHl | .ldAAtNn _ | .ei | .illegalFC | .illegalFD | .cpN _ | .rst38 | .cbRlcB | .cbRlcC | .cbRlcD
  | .cbRlcE | .cbRlcH | .cbRlcL | .cbRlcAtHl | .cbRlcA | .cbRrcB | .cbRrcC | .cbRrcD | .cbRrcE | .cbRrcH | .cbRrcL
  | .cbRrcAtHl | .cbRrcA | .cbRlB | .cbRlC | .cbRlD | .cbRlE | .cbRlH | .cbRlL | .cbRlAtHl | .cbRlA | .cbRrB | .cbRrC
  | .cbRrD | .cbRrE | .cbRrH | .cbRrL | .cbRrAtHl | .cbRrA | .cbSlaB | .cbSlaC | .cbSlaD | .cbSlaE | .cbSlaH | .cbSlaL
  | .cbSlaAtHl | .cbSlaA | .cbSraB | .cbSraC | .cbSraD | .cbSraE | .cbSraH | .cbSraL | .cbSraAtHl | .cbSraA | .cbSwapB
  | .cbSwapC | .cbSwapD | .cbSwapE | .cbSwapH | .cbSwapL | .cbSwapAtHl | .cbSwapA | .cbSrlB | .cbSrlC | .cbSrlD | .cbSrlE
  | .cbSrlH | .cbSrlL | .cbSrlAtHl | .cbSrlA | .cbBit0B | .cbBit0C | .cbBit0D | .cbBit0E | .cbBit0H | .cbBit0L | .cbBit0AtHl
  | .cbBit0A | .cbBit1B | .cbBit1C | .cbBit1D | .cbBit1E | .cbBit1H | .cbBit1L | .cbBit1AtHl | .cbBit1A | .cbBit2B | .cbBit2C
  | .cbBit2D | .cbBit2E | .cbBit2H | .cbBit2L | .cbBit2AtHl | .cbBit2A | .cbBit3B | .cbBit3C | .cbBit3D | .cbBit3E | .cbBit3H
  | .cbBit3L | .cbBit3AtHl | .cbBit3A | .cbBit4B | .cbBit4C | .cbBit4D | .cbBit4E | .cbBit4H | .cbBit4L | .cbBit4AtHl
  | .cbBit4A | .cbBit5B | .cbBit5C | .cbBit5D | .cbBit5E | .cbBit5H | .cbBit5L | .cbBit5AtHl | .cbBit5A | .cbBit6B | .cbBit6C
  | .cbBit6D | .cbBit6E | .cbBit6H | .cbBit6L | .cbBit6AtHl | .cbBit6A | .cbBit7B | .cbBit7C | .cbBit7D | .cbBit7E | .cbBit7H
  | .cbBit7L | .cbBit7AtHl | .cbBit7A | .cbRes0B | .cbRes0C | .cbRes0D | .cbRes0E | .cbRes0H | .cbRes0L | .cbRes0AtHl
  | .cbRes0A | .cbRes1B | .cbRes1C | .cbRes1D | .cbRes1E | .cbRes1H | .cbRes1L | .cbRes1AtHl | .cbRes1A | .cbRes2B | .cbRes2C
  | .cbRes2D | .cbRes2E | .cbRes2H | .cbRes2L | .cbRes2AtHl | .cbRes2A | .cbRes3B | .cbRes3C | .cbRes3D | .cbRes3E | .cbRes3H
  | .cbRes3L | .cbRes3AtHl | .cbRes3A | .cbRes4B | .cbRes4C | .cbRes4D | .cbRes4E | .cbRes4H | .cbRes4L | .cbRes4AtHl
  | .cbRes4A | .cbRes5B | .cbRes5C | .cbRes5D | .cbRes5E | .cbRes5H | .cbRes5L | .cbRes5AtHl | .cbRes5A | .cbRes6B | .cbRes6C
  | .cbRes6D | .cbRes6E | .cbRes6H | .cbRes6L | .cbRes6AtHl | .cbRes6A | .cbRes7B | .cbRes7C | .cbRes7D | .cbRes7E | .cbRes7H
  | .cbRes7L | .cbRes7AtHl | .cbRes7A | .cbSet0B | .cbSet0C | .cbSet0D | .cbSet0E | .cbSet0H | .cbSet0L | .cbSet0AtHl
  | .cbSet0A | .cbSet1B | .cbSet1C | .cbSet1D | .cbSet1E | .cbSet1H | .cbSet1L | .cbSet1AtHl | .cbSet1A | .cbSet2B | .cbSet2C
  | .cbSet2D | .cbSet2E | .cbSet2H | .cbSet2L | .cbSet2AtHl | .cbSet2A | .cbSet3B | .cbSet3C | .cbSet3D | .cbSet3E | .cbSet3H
  | .cbSet3L | .cbSet3AtHl | .cbSet3A | .cbSet4B | .cbSet4C | .cbSet4D | .cbSet4E | .cbSet4H | .cbSet4L | .cbSet4AtHl
  | .cbSet4A | .cbSet5B | .cbSet5C | .cbSet5D | .cbSet5E | .cbSet5H | .cbSet5L | .cbSet5AtHl | .cbSet5A | .cbSet6B | .cbSet6C
  | .cbSet6D | .cbSet6E | .cbSet6H | .cbSet6L | .cbSet6AtHl | .cbSet6A | .cbSet7B | .cbSet7C | .cbSet7D | .cbSet7E | .cbSet7H
  | .cbSet7L | .cbSet7AtHl | .cbSet7A => none
  | .jrNzDisp _ | .retNz | .jpNzNn _ | .callNzNn _ => some .nz
  | .jrZDisp _ | .retZ | .jpZNn _ | .callZNn _ => some .z
  | .jrNcDisp _ | .retNc | .jpNcNn _ | .callNcNn _ => some .nc
  | .jrCyDisp _ | .retCy | .jpCyNn _ | .callCyNn _ => some .c

/-- Whether a row runs on its taken path: always, for a row without a condition (46_control.md R200). -/
def Instr.taken (i : Instr) (f : Flags) : Bool :=
  match i.condition with
  | none => true
  | some cc => condHolds cc f

end Sys2Proof

namespace Sys2Proof.Machine

/-- The cycles of a row under a timing, on the path taken. -/
def CycleColumn.of (c : CycleColumn) (timing : Timing) (taken : Bool) : Nat :=
  match timing, taken with
  | .access, false => c.access
  | .access, true => c.accessTaken
  | .hardware, false => c.hardware
  | .hardware, true => c.hardwareTaken

/-- What a flag is after a row, when the row's letter decides it. -/
def FlagRule.Allows (r : FlagRule) (old new : Bool) : Prop :=
  match r with
  | .kept => new = old
  | .cleared => new = false
  | .set => new = true
  | .computed => True

end Sys2Proof.Machine
end

