-- ==== Sys2Proof/Safety.lean ====
section
/-! DEFINITION. The terms the statements are written in: what a run is (60_exceptions.md R284), what an instruction leaves unchanged,
which addresses it stores to, what a store can disturb, and the invariant of the machine between two steps. -/

namespace Sys2Proof.Safety

open Sys2Proof.Machine

/-! ## Runs -/

/-- `n` requested steps from `s` end normally in `t` (R284). -/
def RunsTo (n : Nat) (s t : State) : Prop := Host.Core.run Sys2Proof.core n s = .next t

/-- The run of `n` steps from `s` ends normally: no step faults or is refused (R284). -/
def EndsNormally (n : Nat) (s : State) : Prop := ∃ t, RunsTo n s t

/-- A state a run from `s` passes through. -/
def Reachable (s t : State) : Prop := ∃ n, RunsTo n s t

/-! ## Frames -/

/-- A part of the machine that an instruction may change. -/
inductive Part where
  | reg (r : Reg8)
  | flags
  | sp
  | pc
  | ime
  | halted
  | eiPending
  /-- Everything behind the bus: every memory, latch and peripheral register. -/
  | bus
  deriving DecidableEq, Repr

/-- The part is in `t` what it is in `s`. -/
def Part.Same (p : Part) (s t : State) : Prop :=
  match p with
  | .reg r => t.cpu.reg r = s.cpu.reg r
  | .flags => t.cpu.f = s.cpu.f
  | .sp => t.cpu.sp = s.cpu.sp
  | .pc => t.cpu.pc = s.cpu.pc
  | .ime => t.cpu.ime = s.cpu.ime
  | .halted => t.cpu.halted = s.cpu.halted
  | .eiPending => t.cpu.eiPending = s.cpu.eiPending
  | .bus => t.bus = s.bus

/-- From `s` to `t` nothing but the parts named has changed, and the tally has grown by `cycles`. -/
structure Kept (changed : List Part) (cycles : Nat) (s t : State) : Prop where
  parts : ∀ p, p ∉ changed → p.Same s t
  tally : t.tally = s.tally + cycles
  total : t.cycles = s.cycles
  status : t.status = s.status

/-- The cycles a rule adds under `TIMING = Hardware` alone (70_reset_and_hazards.md R315). -/
def hardwareOnly (n : Nat) (s : State) : Nat :=
  match s.bus.params.timing with
  | .access => 0
  | .hardware => n

/-- The two registers of a pair; SP is none of them. -/
def pairParts (rr : Pair) : List Part :=
  match rr with
  | .bc => [.reg .b, .reg .c]
  | .de => [.reg .d, .reg .e]
  | .hl => [.reg .h, .reg .l]
  | .sp => [.sp]

/-- The two registers of a stack pair; of AF, A and the flags. -/
def stackPairParts (rr : StackPair) : List Part :=
  match rr with
  | .bc => [.reg .b, .reg .c]
  | .de => [.reg .d, .reg .e]
  | .hl => [.reg .h, .reg .l]
  | .af => [.reg .a, .flags]

/-! ## Operand codes (30_encoding.md R102 to R106) -/

/-- R102. -/
def regCode (r : Reg8) : BitVec 3 :=
  match r with
  | .b => 0b000#3
  | .c => 0b001#3
  | .d => 0b010#3
  | .e => 0b011#3
  | .h => 0b100#3
  | .l => 0b101#3
  | .a => 0b111#3

/-- R102, with the memory byte at HL. -/
def operandCode (o : Operand8) : BitVec 3 :=
  match o with
  | .reg r => regCode r
  | .atHl => 0b110#3

/-- `rp` of R103. -/
def pairCode (rr : Pair) : BitVec 2 :=
  match rr with
  | .bc => 0b00#2
  | .de => 0b01#2
  | .hl => 0b10#2
  | .sp => 0b11#2

/-- `rp2` of R103. -/
def stackPairCode (rr : StackPair) : BitVec 2 :=
  match rr with
  | .bc => 0b00#2
  | .de => 0b01#2
  | .hl => 0b10#2
  | .af => 0b11#2

/-- R104. -/
def condCode (cc : Cond) : BitVec 2 :=
  match cc with
  | .nz => 0b00#2
  | .z => 0b01#2
  | .nc => 0b10#2
  | .c => 0b11#2

/-- R105. -/
def aluCode (op : AluOp) : BitVec 3 :=
  match op with
  | .add => 0b000#3
  | .adc => 0b001#3
  | .sub => 0b010#3
  | .sbc => 0b011#3
  | .and => 0b100#3
  | .xor => 0b101#3
  | .or => 0b110#3
  | .cp => 0b111#3

/-- R106. -/
def shiftCode (op : ShiftOp) : BitVec 3 :=
  match op with
  | .rlc => 0b000#3
  | .rrc => 0b001#3
  | .rl => 0b010#3
  | .rr => 0b011#3
  | .sla => 0b100#3
  | .sra => 0b101#3
  | .swap => 0b110#3
  | .srl => 0b111#3

/-- The number of bytes a step fetches for an instruction: all of its encoding, but of STOP the opcode alone (47_system.md R217). -/
def fetchedLength (i : Instr) : Nat :=
  match i with
  | .stop => 1
  | _ => (encode i).length

/-! ## Stores -/

/-- The addresses an instruction writes a byte to, in order, when it ends in a next state. A row not named stores nothing. -/
def storeAddrs (i : Instr) (s : State) : List Word :=
  match i with
  | .ldAtHlB | .ldAtHlC | .ldAtHlD | .ldAtHlE | .ldAtHlH | .ldAtHlL | .ldAtHlA | .ldAtHlN _ | .ldAtHlIncA | .ldAtHlDecA
  | .incAtHl | .decAtHl => [s.cpu.hl]
  | .ldAtBcA => [s.cpu.bc]
  | .ldAtDeA => [s.cpu.de]
  | .ldAtNnA nn => [nn]
  | .ldhAtNA n => [ioAddr n]
  | .ldAtCA => [ioAddr s.cpu.c]
  | .ldAtNnSp nn => [nn, nn + 1#16]
  | .pushBc | .pushDe | .pushHl | .pushAf | .callNn _ | .rst00 | .rst08 | .rst10 | .rst18 | .rst20 | .rst28 | .rst30 | .rst38 =>
    [s.cpu.sp - 1#16, s.cpu.sp - 2#16]
  | .callNzNn _ | .callZNn _ | .callNcNn _ | .callCyNn _ =>
    if i.taken s.cpu.f then [s.cpu.sp - 1#16, s.cpu.sp - 2#16] else []
  | .cbRlcAtHl | .cbRrcAtHl | .cbRlAtHl | .cbRrAtHl | .cbSlaAtHl | .cbSraAtHl | .cbSwapAtHl | .cbSrlAtHl
  | .cbRes0AtHl | .cbRes1AtHl | .cbRes2AtHl | .cbRes3AtHl | .cbRes4AtHl | .cbRes5AtHl | .cbRes6AtHl | .cbRes7AtHl
  | .cbSet0AtHl | .cbSet1AtHl | .cbSet2AtHl | .cbSet3AtHl | .cbSet4AtHl | .cbSet5AtHl | .cbSet6AtHl | .cbSet7AtHl => [s.cpu.hl]
  | .prefixCb op2 => if Operand8.ofCode (fieldZ op2) = .atHl ∧ fieldX op2 ≠ 1 then [s.cpu.hl] else []
  | _ => []

/-- The bus after these bytes are written in order. -/
def writeAll (stores : List (Word × Byte)) (b : Bus) : Except FaultKind Bus :=
  match stores with
  | [] => .ok b
  | (addr, v) :: rest =>
    match b.write addr v with
    | .error kind => .error kind
    | .ok b' => writeAll rest b'

/-- Whether a write to `w` can change what a read of `r` gives (20_memory.md R89). -/
def disturbs (b : Bus) (w r : Word) : Bool :=
  match route w with
  | .romFixed _ | .romSwitched _ =>
    decide (0x4000 ≤ r.toNat ∧ r.toNat < 0x8000 ∨ 0xA000 ≤ r.toNat ∧ r.toNat < 0xC000)
  | .eram off =>
    match route r with
    | .eram off' => b.cart.ramOffset off' == b.cart.ramOffset off
    | _ => false
  | .lcdc =>
    decide (r = 0xFF40#16 ∨ r = 0xFF41#16 ∨ r = 0xFF44#16 ∨ 0x8000 ≤ r.toNat ∧ r.toNat < 0xA000
      ∨ 0xFE00 ≤ r.toNat ∧ r.toNat < 0xFEA0)
  | .lyc => decide (r = 0xFF45#16 ∨ r = 0xFF41#16)
  | .dma => decide (0xFE00 ≤ r.toNat ∧ r.toNat < 0xFEA0)
  | .bootOff => decide (r.toNat < 0x100)
  | .ly | .unmapped => false
  | .vram _ | .wram _ | .oam _ | .hram _ | .p1 | .div | .tima | .tma | .tac | .intFlag | .stat | .scy | .scx | .bgp | .obp0
  | .obp1 | .wy | .wx | .intEnable => route r == route w

/-! ## Time -/

/-- The PPU's place in its frame, in cycles from the start of line 0 (R275). -/
def framePosition (p : Ppu) : Nat :=
  456 * p.ly + p.clock
    + match p.mode with
      | .oamSearch => 0
      | .pixelTransfer => 80
      | .hBlank => 252
      | .vBlank => 0

/-! ## Decimals -/

/-- A number below 100 as two decimal digits, one a nibble. -/
def bcd (n : Nat) : Byte := BitVec.ofNat 8 (16 * (n / 10) + n % 10)

/-! ## The invariant between two steps -/

/-- The scanline index fits the mode: 144 to 153 in mode 1, below 144 in the others (R270, R275). -/
def LineFits (mode : PpuMode) (ly : Nat) : Prop :=
  match mode with
  | .vBlank => 144 ≤ ly ∧ ly < 154
  | .hBlank => ly < 144
  | .oamSearch => ly < 144
  | .pixelTransfer => ly < 144

/-- The PPU's timing state is one of those R50, R270, R271 and R277 leave it in. -/
structure PpuOk (gates : Bool) (p : Ppu) : Prop where
  clock : p.clock < p.mode.duration
  line : LineFits p.mode p.ly
  coin : p.coin = (p.ly == p.lyc.toNat)
  off : p.stopped gates = true → p.mode = .hBlank ∧ p.clock = 0 ∧ p.ly = 0

/-- A storage array in canonical form, with no byte at or above its size (R52). -/
def ArrayOk (size : Nat) (m : Memory) : Prop := m.wf = true ∧ m.below size = true

/-- Every storage array is in order (R52). -/
structure ArraysOk (b : Bus) : Prop where
  boot : ArrayOk 0x100 b.boot
  rom : ArrayOk (b.cart.nRom * 0x4000) b.cart.rom
  eram : ArrayOk b.cart.ramSize.bytes b.cart.eram
  vram : ArrayOk 0x2000 b.vram
  oam : ArrayOk 160 b.oam
  wram : ArrayOk 0x2000 b.wram
  hram : ArrayOk 127 b.hram

/-- The one-shot requests of the PPU and the timer have been moved into IF (R33, R242). -/
structure RequestsTaken (b : Bus) : Prop where
  vblank : b.ppu.reqVblank = false
  stat : b.ppu.reqStat = false
  timer : b.timer.req = false

/-- The interrupt latches between steps: `ei_pending` is 0 or 1, 0 without EI_DELAY (R28) and 0 when IME is set; a halted machine has
IME set (47_system.md R216). -/
structure LatchesOk (eiDelay : Bool) (c : Cpu) : Prop where
  bound : c.eiPending.toNat ≤ 1
  delay : eiDelay = false → c.eiPending = 0#2
  enabled : c.ime = true → c.eiPending = 0#2
  halted : c.halted = true → c.ime = true

/-- The machine between two steps. -/
structure Inv (s : State) : Prop where
  ppu : PpuOk s.bus.params.lcdGates s.bus.ppu
  arrays : ArraysOk s.bus
  requests : RequestsTaken s.bus
  latches : LatchesOk s.bus.params.eiDelay s.cpu
  status : s.status = .running

end Sys2Proof.Safety
end

