-- ==== Sys2Proof/Certificates/Slice0/Obligations.lean ====
section
/-! DEFINITION. The statements for the provers. The helpers come first; each statement's docstring names the rules of spec/ it
formalises. A statement about a row of the opcode table speaks of `exec`, which runs after the row's bytes have been fetched (pc is
already past them and the tally already counts them, `StepRunsTheDecodedInstruction`). -/

namespace Sys2Proof.Claims

open Sys2Proof.Machine Sys2Proof.Safety

/-! ## Shapes of effects -/

/-- The flags are exactly these. -/
def FlagsAre (f : Flags) (z n h c : Prop) : Prop :=
  (f.z = true ↔ z) ∧ (f.n = true ↔ n) ∧ (f.h = true ↔ h) ∧ (f.c = true ↔ c)

/-- The instruction reads a byte at `addr` and puts it into a register; a fault of the read stops it with nothing changed. -/
def LoadsFrom (i : Instr) (dst : Reg8) (addr : Word) (s : State) : Prop :=
  (∀ v, s.bus.read addr = .ok v → ∃ t, exec i s = .next t ∧ t.cpu.reg dst = v ∧ Kept [.reg dst] 4 s t) ∧
  (∀ kind, s.bus.read addr = .error kind → exec i s = raise kind s)

/-- The instruction writes a byte at `addr`; a fault of the write stops it with nothing changed. -/
def StoresTo (i : Instr) (addr : Word) (v : Byte) (s : State) : Prop :=
  (∀ b, s.bus.write addr v = .ok b → ∃ t, exec i s = .next t ∧ t.bus = b ∧ Kept [.bus] 4 s t) ∧
  (∀ kind, s.bus.write addr v = .error kind → exec i s = raise kind s)

/-- The state with SP, the bus and the tally as a stack access leaves them. -/
def stackState (sp : Word) (b : Bus) (cycles : Nat) (s : State) : State :=
  { s with cpu := { s.cpu with sp := sp }, bus := b, tally := s.tally + cycles }

/-- The instruction pushes `v`: the high byte at SP - 1, then the low byte at SP - 2 (00_scope.md R15). Beyond that it changes what
`changed` names, as `also` says, and adds `extra` cycles under `Hardware`. The decrements before a faulting write have happened. -/
def Pushes (i : Instr) (v : Word) (changed : List Part) (extra : Nat) (also : State → Prop) (s : State) : Prop :=
  (∀ b b', s.bus.write (s.cpu.sp - 1#16) (hiByte v) = .ok b → b.write (s.cpu.sp - 2#16) (loByte v) = .ok b' →
    ∃ t, exec i s = .next t ∧ t.bus = b' ∧ t.cpu.sp = s.cpu.sp - 2#16 ∧ also t ∧
      Kept (.bus :: .sp :: changed) (8 + hardwareOnly extra s) s t) ∧
  (∀ kind, s.bus.write (s.cpu.sp - 1#16) (hiByte v) = .error kind →
    exec i s = raise kind (stackState (s.cpu.sp - 1#16) s.bus 0 s)) ∧
  (∀ b kind, s.bus.write (s.cpu.sp - 1#16) (hiByte v) = .ok b → b.write (s.cpu.sp - 2#16) (loByte v) = .error kind →
    exec i s = raise kind (stackState (s.cpu.sp - 2#16) b 4 s))

/-- The instruction pops a word: the low byte at SP, then the high byte at SP + 1 (00_scope.md R15). Beyond that it changes what
`changed` names, as `also` says of the word, and adds `extra` cycles under `Hardware`. -/
def Pops (i : Instr) (changed : List Part) (extra : Nat) (also : Word → State → Prop) (s : State) : Prop :=
  (∀ lo hi, s.bus.read s.cpu.sp = .ok lo → s.bus.read (s.cpu.sp + 1#16) = .ok hi →
    ∃ t, exec i s = .next t ∧ t.cpu.sp = s.cpu.sp + 2#16 ∧ also (wordOf hi lo) t ∧
      Kept (.sp :: changed) (8 + hardwareOnly extra s) s t) ∧
  (∀ kind, s.bus.read s.cpu.sp = .error kind → exec i s = raise kind s) ∧
  (∀ lo kind, s.bus.read s.cpu.sp = .ok lo → s.bus.read (s.cpu.sp + 1#16) = .error kind →
    exec i s = raise kind (stackState (s.cpu.sp + 1#16) s.bus 4 s))

/-- The instruction replaces a register by a function of its value, and the flags, if `flags` is some, by another. -/
def RewritesReg (i : Instr) (r : Reg8) (value : Byte → Byte) (flags : Option (Byte → Flags)) (s : State) : Prop :=
  ∃ t, exec i s = .next t ∧ t.cpu.reg r = value (s.cpu.reg r) ∧
    (∀ f, flags = some f → t.cpu.f = f (s.cpu.reg r)) ∧
    Kept (if flags.isSome then [.reg r, .flags] else [.reg r]) 0 s t

/-- The same for the byte at HL: one read and one write of the same address, the flags after the write. -/
def RewritesAtHl (i : Instr) (value : Byte → Byte) (flags : Option (Byte → Flags)) (s : State) : Prop :=
  (∀ v b, s.bus.read s.cpu.hl = .ok v → s.bus.write s.cpu.hl (value v) = .ok b →
    ∃ t, exec i s = .next t ∧ t.bus = b ∧ (∀ f, flags = some f → t.cpu.f = f v) ∧
      Kept (if flags.isSome then [.bus, .flags] else [.bus]) 8 s t) ∧
  (∀ kind, s.bus.read s.cpu.hl = .error kind → exec i s = raise kind s) ∧
  (∀ v kind, s.bus.read s.cpu.hl = .ok v → s.bus.write s.cpu.hl (value v) = .error kind →
    exec i s = raise kind { s with tally := s.tally + 4 })

/-- The same for an operand field. -/
def Rewrites (i : Instr) (o : Operand8) (value : Byte → Byte) (flags : Option (Byte → Flags)) (s : State) : Prop :=
  match o with
  | .reg r => RewritesReg i r value flags s
  | .atHl => RewritesAtHl i value flags s

/-- The instruction ends in a next state that holds `also` and differs from `s` in the parts named. -/
def Ends (i : Instr) (changed : List Part) (cycles : Nat) (also : State → Prop) (s : State) : Prop :=
  ∃ t, exec i s = .next t ∧ also t ∧ Kept changed cycles s t

/-! ## Results -/

/-- The new A and flags of an ALU operation, over the integers (42_alu8.md R151 to R158). -/
def AluResult (op : AluOp) (a b : Byte) (f : Flags) (a' : Byte) (f' : Flags) : Prop :=
  let c := f.c.toNat
  let lowA := a.toNat % 16
  let lowB := b.toNat % 16
  match op with
  | .add => a'.toNat = (a.toNat + b.toNat) % 256 ∧ FlagsAre f' (a'.toNat = 0) False (0xF < lowA + lowB) (0xFF < a.toNat + b.toNat)
  | .adc =>
    a'.toNat = (a.toNat + b.toNat + c) % 256 ∧
      FlagsAre f' (a'.toNat = 0) False (0xF < lowA + lowB + c) (0xFF < a.toNat + b.toNat + c)
  | .sub => (a'.toNat : Int) = ((a.toNat : Int) - b.toNat) % 256 ∧ FlagsAre f' (a'.toNat = 0) True (lowA < lowB) (a.toNat < b.toNat)
  | .sbc =>
    (a'.toNat : Int) = ((a.toNat : Int) - b.toNat - c) % 256 ∧
      FlagsAre f' (a'.toNat = 0) True (lowA < lowB + c) (a.toNat < b.toNat + c)
  | .and => a' = a &&& b ∧ FlagsAre f' (a'.toNat = 0) False True False
  | .xor => a' = a ^^^ b ∧ FlagsAre f' (a'.toNat = 0) False False False
  | .or => a' = a ||| b ∧ FlagsAre f' (a'.toNat = 0) False False False
  | .cp => a' = a ∧ FlagsAre f' (a = b) True (lowA < lowB) (a.toNat < b.toNat)

/-- The result of a rotate or shift as a number, from the value and the old carry (44_rotate_shift.md R184 to R191). -/
def shiftNumber (op : ShiftOp) (v c : Nat) : Nat :=
  match op with
  | .rlc => 2 * v % 256 + v / 128
  | .rrc => v / 2 + 128 * (v % 2)
  | .rl => 2 * v % 256 + c
  | .rr => v / 2 + 128 * c
  | .sla => 2 * v % 256
  | .sra => v / 2 + 128 * (v / 128)
  | .swap => 16 * (v % 16) + v / 16
  | .srl => v / 2

/-- The carry out of a rotate or shift: bit 7 of the value for the left ones, bit 0 for the right ones, none for SWAP. -/
def shiftCarryOut (op : ShiftOp) (v : Byte) : Bool :=
  match op with
  | .rlc | .rl | .sla => v.getLsbD 7
  | .rrc | .rr | .sra | .srl => v.getLsbD 0
  | .swap => false

/-- The result of a rotate or shift of a byte. -/
def shifted (op : ShiftOp) (c : Bool) (v : Byte) : Byte := BitVec.ofNat 8 (shiftNumber op v.toNat c.toNat)

/-- The flags of an extended rotate or shift: Z from the result, N and H clear, C the bit moved out. -/
def shiftedFlags (op : ShiftOp) (c : Bool) (v : Byte) : Flags :=
  { z := shifted op c v == 0#8, n := false, h := false, c := shiftCarryOut op v }

/-- The carry out of DAA (42_alu8.md R164). -/
def daaCarryOut (a : Nat) (f : Flags) : Bool := if f.n then f.c else f.c || decide (0x99 < a)

/-- The number DAA stores (42_alu8.md R164): 0xA0 and 0xFA are -0x60 and -0x06 modulo 256. -/
def daaNumber (a : Nat) (f : Flags) : Nat :=
  if f.n then (a + (if f.c then 0xA0 else 0) + (if f.h then 0xFA else 0)) % 256
  else (a + (if f.c = true ∨ 0x99 < a then 0x60 else 0) + (if f.h = true ∨ 9 < a % 16 then 0x06 else 0)) % 256

/-- The flags of ADD SP,e and LD HL,SP+e (43_alu16.md R173, R174). -/
def DispFlags (f : Flags) (sp : Word) (e : Byte) : Prop :=
  FlagsAre f False False (0xF < sp.toNat % 16 + e.toNat % 16) (0xFF < sp.toNat % 256 + e.toNat)

/-! ## The bus -/

/-- The ranges that 20_memory.md R62 lists as unmapped. -/
def Unmapped (a : Word) : Prop :=
  0xFEA0 ≤ a.toNat ∧ a.toNat ≤ 0xFEFF ∨ 0xFF01 ≤ a.toNat ∧ a.toNat ≤ 0xFF03 ∨ 0xFF08 ≤ a.toNat ∧ a.toNat ≤ 0xFF0E ∨
  0xFF10 ≤ a.toNat ∧ a.toNat ≤ 0xFF3F ∨ 0xFF4C ≤ a.toNat ∧ a.toNat ≤ 0xFF4F ∨ 0xFF51 ≤ a.toNat ∧ a.toNat ≤ 0xFF7F

/-- An address a read of which follows the unmapped-access policy (20_memory.md R62). -/
def UnreadableAddr (a : Word) : Prop := Unmapped a ∨ a = 0xFF46#16 ∨ a = 0xFF50#16

/-- An access to the enabled RAM window of a cartridge without RAM (20_memory.md R77). -/
def CartRamAbsent (b : Bus) (a : Word) : Prop :=
  0xA000 ≤ a.toNat ∧ a.toNat < 0xC000 ∧ b.cart.ramEn = true ∧ b.cart.ramSize.bytes = 0

/-- The bank at 0x4000 to 0x7FFF (20_memory.md R73), over the naturals; masking by `N_ROM - 1` is the remainder, `N_ROM` being a
power of two. -/
def romBankNumber (c : Cart) : Nat :=
  let b := if c.bankMode then c.bankLo.toNat else 32 * c.bankHi.toNat + c.bankLo.toNat
  (if b = 0x00 ∨ b = 0x20 ∨ b = 0x40 ∨ b = 0x60 then b + 1 else b) % c.nRom

/-- The request flags of a bus as IF bits (60_exceptions.md R242). -/
def requestBit (b : Bus) (k : Nat) : Bool :=
  match k with
  | 0 => b.ppu.reqVblank
  | 1 => b.ppu.reqStat
  | 2 => b.timer.req
  | 4 => b.input.req
  | _ => false

/-- The cycles an interrupt service costs (60_exceptions.md R254). -/
def serviceCost (s : State) : Nat := 16 + hardwareOnly 4 s

/-- `i` is the lowest of the five sources pending and enabled (60_exceptions.md R231, R255). -/
def LowestPending (b : Bus) (i : Nat) : Prop :=
  i < 5 ∧ (b.intFlag &&& b.intEnable).getLsbD i = true ∧ ∀ j, j < i → (b.intFlag &&& b.intEnable).getLsbD j = false

/-- The state in which service pushes pc (60_exceptions.md R253): the IF bit, IME, `halted` and `ei_pending` cleared, the cycles
counted from 0. -/
def Acknowledged (i : Nat) (s u : State) : Prop :=
  u.bus = { s.bus with intFlag := s.bus.intFlag &&& ~~~(BitVec.twoPow 8 i) } ∧
  u.cpu = { s.cpu with ime := false, halted := false, eiPending := 0#2 } ∧
  u.tally = 0 ∧ u.cycles = s.cycles ∧ u.status = s.status

/-- The array begins with the bytes of the vector. -/
def BeginsWith {n : Nat} (m : Memory) (bytes : Vector Byte n) : Prop := ∀ k (h : k < n), m.read k = bytes[k]

/-- What a launch takes from its input (00_scope.md R10): the parameters, INIT_REGS, OBP0 and OBP1, the image, the save file or
zeros, the boot image or none, and INIT_MEM. -/
structure Supplies (input : LaunchInput) (launch : Launch) : Prop where
  params : launch.params = input.params
  regs : launch.regs = input.regs
  obp : launch.obp0 = input.obp0 ∧ launch.obp1 = input.obp1
  rom : ∀ k, k < input.rom.length → launch.rom.read k = romByte input.rom k
  eram : ∀ k, launch.eram.read k = (input.save.getD []).getD k 0x00#8
  noBoot : input.bootImage = none → launch.bootImage = none
  boot : ∀ image, input.bootImage = some image → ∃ m, launch.bootImage = some m ∧ BeginsWith m image
  vram : BeginsWith launch.vram input.vram
  oam : BeginsWith launch.oam input.oam
  wram : BeginsWith launch.wram input.wram
  hram : BeginsWith launch.hram input.hram

end Sys2Proof.Claims

section

open Sys2Proof Sys2Proof.Machine Sys2Proof.Safety Sys2Proof.Claims

/-! ## Registers -/

/-- R21 and R22, with the flags' places from R23: a pair is a view of its two registers, the first-named one the high byte; writing a
pair writes both and nothing else; F reads with a zero low nibble and the flags Z, N, H, C at bits 7 to 4; what is written to F is
stored `& 0xF0`. -/
def Obligations.RegisterPairsAreViews : Prop :=
  ∀ (c : Cpu) (f : Flags) (v : Word) (n : Byte),
    (c.af.toNat = 256 * (c.reg .a).toNat + c.f.toByte.toNat ∧ c.bc.toNat = 256 * (c.reg .b).toNat + (c.reg .c).toNat ∧
      c.de.toNat = 256 * (c.reg .d).toNat + (c.reg .e).toNat ∧ c.hl.toNat = 256 * (c.reg .h).toNat + (c.reg .l).toNat) ∧
    (∀ rr, (c.setPair rr v).pair rr = v ∧ (c.setPair rr v).f = c.f ∧ (∀ r, Part.reg r ∉ pairParts rr →
      (c.setPair rr v).reg r = c.reg r)) ∧
    (∀ rr, (c.setStackPair rr v).stackPair rr = (if rr = .af then v &&& 0xFFF0#16 else v) ∧
      (rr ≠ .af → (c.setStackPair rr v).f = c.f) ∧ (∀ r, Part.reg r ∉ stackPairParts rr →
        (c.setStackPair rr v).reg r = c.reg r)) ∧
    (f.toByte &&& 0x0F#8 = 0#8 ∧ f.toByte.getLsbD 7 = f.z ∧ f.toByte.getLsbD 6 = f.n ∧ f.toByte.getLsbD 5 = f.h ∧
      f.toByte.getLsbD 4 = f.c) ∧
    (Flags.ofByte n).toByte = n &&& 0xF0#8 ∧ (c.setStackPair .af v).f = Flags.ofByte (loByte v)

/-! ## Eight-bit loads -/

/-- R120 (the 49 rows `ldBB` … `ldAA`) and R121 (the 7 rows `ldBN` … `ldAN`): the destination takes the source or the immediate,
nothing else changes, no cycle is added to the fetch's. -/
def Obligations.RegisterLoads : Prop :=
  ∀ (dst r : Reg8) (n : Byte) (s : State),
    encode (Instr.ldReg dst r) = [0b01#2 ++ regCode dst ++ regCode r] ∧
    Ends (Instr.ldReg dst r) [.reg dst] 0 (fun t => t.cpu.reg dst = s.cpu.reg r) s ∧
    encode (Instr.ldImm dst n) = [0b00#2 ++ regCode dst ++ 0b110#3, n] ∧
    Ends (Instr.ldImm dst n) [.reg dst] 0 (fun t => t.cpu.reg dst = n) s

/-- R122 (the 7 rows `ldBAtHl` … `ldAAtHl`), R125, R126, R129, R131, R133: a register takes the byte read at the form's address. -/
def Obligations.LoadsFromMemory : Prop :=
  ∀ (dst : Reg8) (n : Byte) (nn : Word) (s : State),
    (encode (Instr.ldRegAtHl dst) = [0b01#2 ++ regCode dst ++ 0b110#3] ∧ LoadsFrom (Instr.ldRegAtHl dst) dst s.cpu.hl s) ∧
    (encode .ldAAtBc = [0x0A#8] ∧ LoadsFrom .ldAAtBc .a s.cpu.bc s) ∧
    (encode .ldAAtDe = [0x1A#8] ∧ LoadsFrom .ldAAtDe .a s.cpu.de s) ∧
    (encode (.ldAAtNn nn) = [0xFA#8, loByte nn, hiByte nn] ∧ LoadsFrom (.ldAAtNn nn) .a nn s) ∧
    (encode (.ldhAAtN n) = [0xF0#8, n] ∧ LoadsFrom (.ldhAAtN n) .a (0xFF00#16 + n.setWidth 16) s) ∧
    (encode .ldAAtC = [0xF2#8] ∧ LoadsFrom .ldAAtC .a (0xFF00#16 + s.cpu.c.setWidth 16) s)

/-- R123 (the 7 rows `ldAtHlB` … `ldAtHlA`), R124, R127, R128, R130, R132, R134: a byte is written at the form's address. -/
def Obligations.StoresToMemory : Prop :=
  ∀ (r : Reg8) (n : Byte) (nn : Word) (s : State),
    (encode (Instr.ldAtHlReg r) = [0b01110#5 ++ regCode r] ∧ StoresTo (Instr.ldAtHlReg r) s.cpu.hl (s.cpu.reg r) s) ∧
    (encode (.ldAtHlN n) = [0x36#8, n] ∧ StoresTo (.ldAtHlN n) s.cpu.hl n s) ∧
    (encode .ldAtBcA = [0x02#8] ∧ StoresTo .ldAtBcA s.cpu.bc s.cpu.a s) ∧
    (encode .ldAtDeA = [0x12#8] ∧ StoresTo .ldAtDeA s.cpu.de s.cpu.a s) ∧
    (encode (.ldAtNnA nn) = [0xEA#8, loByte nn, hiByte nn] ∧ StoresTo (.ldAtNnA nn) nn s.cpu.a s) ∧
    (encode (.ldhAtNA n) = [0xE0#8, n] ∧ StoresTo (.ldhAtNA n) (0xFF00#16 + n.setWidth 16) s.cpu.a s) ∧
    (encode .ldAtCA = [0xE2#8] ∧ StoresTo .ldAtCA (0xFF00#16 + s.cpu.c.setWidth 16) s.cpu.a s)

/-- R135 to R138: the access is at the old HL; then HL steps by one, wrapping. A fault of the access leaves HL. -/
def Obligations.SteppingLoadsAndStores : Prop :=
  ∀ (s : State),
    (∀ i delta, (i, delta) ∈ [(Instr.ldAAtHlInc, 1#16), (Instr.ldAAtHlDec, 0xFFFF#16)] →
      (∀ v, s.bus.read s.cpu.hl = .ok v →
        Ends i [.reg .a, .reg .h, .reg .l] 4 (fun t => t.cpu.a = v ∧ t.cpu.hl = s.cpu.hl + delta) s) ∧
      (∀ kind, s.bus.read s.cpu.hl = .error kind → exec i s = raise kind s)) ∧
    (∀ i delta, (i, delta) ∈ [(Instr.ldAtHlIncA, 1#16), (Instr.ldAtHlDecA, 0xFFFF#16)] →
      (∀ b, s.bus.write s.cpu.hl s.cpu.a = .ok b →
        Ends i [.reg .h, .reg .l, .bus] 4 (fun t => t.bus = b ∧ t.cpu.hl = s.cpu.hl + delta) s) ∧
      (∀ kind, s.bus.write s.cpu.hl s.cpu.a = .error kind → exec i s = raise kind s)) ∧
    encode .ldAAtHlInc = [0x2A#8] ∧ encode .ldAAtHlDec = [0x3A#8] ∧ encode .ldAtHlIncA = [0x22#8] ∧ encode .ldAtHlDecA = [0x32#8]

/-! ## Sixteen-bit loads and the stack -/

/-- R140 (the 4 rows `ldBcNn` … `ldSpNn`) and R142: a pair takes the immediate, SP takes HL. -/
def Obligations.PairLoads : Prop :=
  ∀ (rr : Pair) (nn : Word) (s : State),
    encode (Instr.ldPair rr nn) = [0b00#2 ++ pairCode rr ++ 0b0001#4, loByte nn, hiByte nn] ∧
    Ends (Instr.ldPair rr nn) (pairParts rr) 0 (fun t => t.cpu.pair rr = nn) s ∧
    encode .ldSpHl = [0xF9#8] ∧
    Ends .ldSpHl [.sp] (hardwareOnly 4 s) (fun t => t.cpu.sp = s.cpu.hl) s

/-- R141: SP's low byte goes to `nn`, its high byte to `nn + 1`; a fault of the second write leaves the first byte written. -/
def Obligations.StackPointerStore : Prop :=
  ∀ (nn : Word) (s : State),
    encode (.ldAtNnSp nn) = [0x08#8, loByte nn, hiByte nn] ∧
    (∀ b b', s.bus.write nn (loByte s.cpu.sp) = .ok b → b.write (nn + 1#16) (hiByte s.cpu.sp) = .ok b' →
      Ends (.ldAtNnSp nn) [.bus] 8 (fun t => t.bus = b') s) ∧
    (∀ kind, s.bus.write nn (loByte s.cpu.sp) = .error kind → exec (.ldAtNnSp nn) s = raise kind s) ∧
    (∀ b kind, s.bus.write nn (loByte s.cpu.sp) = .ok b → b.write (nn + 1#16) (hiByte s.cpu.sp) = .error kind →
      exec (.ldAtNnSp nn) s = raise kind { s with bus := b, tally := s.tally + 4 })

/-- R143 (the 4 rows `pushBc` … `pushAf`): the pair is pushed, the high byte first, and SP falls by two; under `Hardware` it costs 4
more cycles than its bus accesses. -/
def Obligations.PushStoresThePair : Prop :=
  ∀ (rr : StackPair) (s : State),
    encode (Instr.push rr) = [0b11#2 ++ stackPairCode rr ++ 0b0101#4] ∧
    Pushes (Instr.push rr) (s.cpu.stackPair rr) [] 4 (fun _ => True) s

/-- R144 (`popBc`, `popDe`, `popHl`) and R145 (`popAf`): the pair takes the popped word; of AF, the flags take bits 7 to 4 of its
low byte. -/
def Obligations.PopLoadsThePair : Prop :=
  ∀ (rr : StackPair) (s : State),
    encode (Instr.pop rr) = [0b11#2 ++ stackPairCode rr ++ 0b0001#4] ∧
    Pops (Instr.pop rr) (stackPairParts rr) 0
      (fun v t => t.cpu.stackPair rr = (if rr = .af then v &&& 0xFFF0#16 else v) ∧
        (rr = .af → t.cpu.f.z = v.getLsbD 7 ∧ t.cpu.f.n = v.getLsbD 6 ∧ t.cpu.f.h = v.getLsbD 5 ∧ t.cpu.f.c = v.getLsbD 4)) s

/-! ## Eight-bit arithmetic -/

/-- R150 to R158, in the register, memory and immediate forms (72 rows `addAB` … `cpN`): A and the flags take what the operation
gives on A and the source, which is read once before any register changes. -/
def Obligations.ArithmeticAndLogic : Prop :=
  ∀ (op : AluOp) (r : Reg8) (n : Byte) (s : State),
    (encode (Instr.alu op (.reg r)) = [0b10#2 ++ aluCode op ++ regCode r] ∧
      Ends (Instr.alu op (.reg r)) [.reg .a, .flags] 0
        (fun t => AluResult op s.cpu.a (s.cpu.reg r) s.cpu.f t.cpu.a t.cpu.f) s) ∧
    (encode (Instr.alu op .atHl) = [0b10#2 ++ aluCode op ++ 0b110#3] ∧
      (∀ v, s.bus.read s.cpu.hl = .ok v →
        Ends (Instr.alu op .atHl) [.reg .a, .flags] 4 (fun t => AluResult op s.cpu.a v s.cpu.f t.cpu.a t.cpu.f) s) ∧
      (∀ kind, s.bus.read s.cpu.hl = .error kind → exec (Instr.alu op .atHl) s = raise kind s)) ∧
    (encode (Instr.aluImm op n) = [0b11#2 ++ aluCode op ++ 0b110#3, n] ∧
      Ends (Instr.aluImm op n) [.reg .a, .flags] 0 (fun t => AluResult op s.cpu.a n s.cpu.f t.cpu.a t.cpu.f) s)

/-- R161, laws 1 to 6: carry and half-carry of ADD, ADC, SUB, SBC and CP; CP leaves SUB's flags and A; INC and DEC keep C and take
the half-carry of law 2 with `b = 1`, `c = 0`; F's low nibble is 0 whatever the flags; Z describes the stored byte. -/
def Obligations.EightBitLaws : Prop :=
  ∀ (a b : Byte) (f : Flags),
    let carry (op : AluOp) : Nat := if op = .adc ∨ op = .sbc then f.c.toNat else 0
    (∀ op, op = .add ∨ op = .adc →
      ((alu8 op a b f).2.c = true ↔ 256 ≤ a.toNat + b.toNat + carry op) ∧
      ((alu8 op a b f).2.h = true ↔ 16 ≤ a.toNat % 16 + b.toNat % 16 + carry op)) ∧
    (∀ op, op = .sub ∨ op = .sbc ∨ op = .cp →
      ((alu8 op a b f).2.c = true ↔ a.toNat < b.toNat + carry op) ∧
      ((alu8 op a b f).2.h = true ↔ a.toNat % 16 < b.toNat % 16 + carry op)) ∧
    (alu8 .cp a b f = (a, (alu8 .sub a b f).2)) ∧
    ((incFlags a f).c = f.c ∧ (decFlags a f).c = f.c ∧
      ((incFlags a f).h = true ↔ 16 ≤ a.toNat % 16 + 1) ∧ ((decFlags a f).h = true ↔ a.toNat % 16 < 1)) ∧
    (∀ g : Flags, g.toByte &&& 0x0F#8 = 0#8) ∧
    (∀ op, op ≠ .cp → ((alu8 op a b f).2.z = true ↔ (alu8 op a b f).1 = 0#8)) ∧
    ((alu8 .cp a b f).2.z = true ↔ a - b = 0#8) ∧
    ((incFlags a f).z = true ↔ a + 1#8 = 0#8) ∧ ((decFlags a f).z = true ↔ a - 1#8 = 0#8)

/-- R159, R160 (the 14 register rows `incB` … `decA`), R162 and R163: the operand steps by one modulo 256; Z, N and H follow the old
value, C is kept; the memory form reads once and writes once, and writes the flags last. -/
def Obligations.IncrementAndDecrement : Prop :=
  ∀ (o : Operand8) (s : State),
    encode (Instr.inc8 o) = [0b00#2 ++ operandCode o ++ 0b100#3] ∧
    Rewrites (Instr.inc8 o) o (fun v => BitVec.ofNat 8 (v.toNat + 1))
      (some fun v => { z := v.toNat == 255, n := false, h := v.toNat % 16 == 15, c := s.cpu.f.c }) s ∧
    encode (Instr.dec8 o) = [0b00#2 ++ operandCode o ++ 0b101#3] ∧
    Rewrites (Instr.dec8 o) o (fun v => BitVec.ofNat 8 (v.toNat + 255))
      (some fun v => { z := v.toNat == 1, n := true, h := v.toNat % 16 == 0, c := s.cpu.f.c }) s

/-- R164 to R167: DAA, CPL, SCF and CCF complete on every state, with these results. -/
def Obligations.AccumulatorAdjustments : Prop :=
  ∀ (s : State),
    (encode .daa = [0x27#8] ∧ Ends .daa [.reg .a, .flags] 0
      (fun t => t.cpu.a.toNat = daaNumber s.cpu.a.toNat s.cpu.f ∧
        t.cpu.f = { z := t.cpu.a == 0#8, n := s.cpu.f.n, h := false, c := daaCarryOut s.cpu.a.toNat s.cpu.f }) s) ∧
    (encode .cplA = [0x2F#8] ∧ Ends .cplA [.reg .a, .flags] 0
      (fun t => t.cpu.a.toNat = 255 - s.cpu.a.toNat ∧
        t.cpu.f = { z := s.cpu.f.z, n := true, h := true, c := s.cpu.f.c }) s) ∧
    (encode .scf = [0x37#8] ∧ Ends .scf [.flags] 0
      (fun t => t.cpu.f = { z := s.cpu.f.z, n := false, h := false, c := true }) s) ∧
    (encode .ccf = [0x3F#8] ∧ Ends .ccf [.flags] 0
      (fun t => t.cpu.f = { z := s.cpu.f.z, n := false, h := false, c := !s.cpu.f.c }) s)

/-- What R164's heading calls DAA for: after ADD or ADC, SUB or SBC on two-digit decimals, DAA leaves the decimal sum or difference
modulo 100, with the decimal carry or borrow in C. -/
def Obligations.DecimalAdjustIsDecimal : Prop :=
  ∀ (x y : Nat) (c : Bool), x < 100 → y < 100 →
    let sum := add8 (bcd x) (bcd y) c
    let difference := sub8 (bcd x) (bcd y) c
    daaValue sum.1 sum.2 = bcd ((x + y + c.toNat) % 100) ∧
    ((daaFlags sum.1 sum.2).c = true ↔ 100 ≤ x + y + c.toNat) ∧
    daaValue difference.1 difference.2 = bcd ((x + 200 - y - c.toNat) % 100) ∧
    ((daaFlags difference.1 difference.2).c = true ↔ x < y + c.toNat)

/-! ## Sixteen-bit arithmetic -/

/-- R170, R171 (the 8 rows `incBc` … `decSp`) and R172 (the 4 rows `addHlBc` … `addHlSp`): the pair steps by one modulo 2^16 with
no flag written; HL takes the sum, H is the carry out of bit 11, C that out of bit 15, Z is kept. -/
def Obligations.PairArithmetic : Prop :=
  ∀ (rr : Pair) (s : State),
    (encode (Instr.incPair rr) = [0b00#2 ++ pairCode rr ++ 0b0011#4] ∧
      Ends (Instr.incPair rr) (pairParts rr) (hardwareOnly 4 s)
        (fun t => (t.cpu.pair rr).toNat = ((s.cpu.pair rr).toNat + 1) % 65536) s) ∧
    (encode (Instr.decPair rr) = [0b00#2 ++ pairCode rr ++ 0b1011#4] ∧
      Ends (Instr.decPair rr) (pairParts rr) (hardwareOnly 4 s)
        (fun t => (t.cpu.pair rr).toNat = ((s.cpu.pair rr).toNat + 65535) % 65536) s) ∧
    (encode (Instr.addHl rr) = [0b00#2 ++ pairCode rr ++ 0b1001#4] ∧
      Ends (Instr.addHl rr) [.reg .h, .reg .l, .flags] (hardwareOnly 4 s)
        (fun t => t.cpu.hl.toNat = (s.cpu.hl.toNat + (s.cpu.pair rr).toNat) % 65536 ∧
          FlagsAre t.cpu.f (s.cpu.f.z = true) False (0xFFF < s.cpu.hl.toNat % 4096 + (s.cpu.pair rr).toNat % 4096)
            (0xFFFF < s.cpu.hl.toNat + (s.cpu.pair rr).toNat)) s)

/-- R173, R174 and law 4 of R175: SP or HL takes SP plus the signed displacement, both carries on the low byte with the displacement
unsigned; LD HL,SP+e and then LD SP,HL leave the SP and the flags of ADD SP,e. -/
def Obligations.StackPointerDisplacements : Prop :=
  ∀ (e : Byte) (s : State),
    (encode (.addSpDisp e) = [0xE8#8, e] ∧
      Ends (.addSpDisp e) [.sp, .flags] (hardwareOnly 8 s)
        (fun t => (t.cpu.sp.toNat : Int) = (s.cpu.sp.toNat + e.toInt) % 65536 ∧ DispFlags t.cpu.f s.cpu.sp e) s) ∧
    (encode (.ldHlSpDisp e) = [0xF8#8, e] ∧
      Ends (.ldHlSpDisp e) [.reg .h, .reg .l, .flags] (hardwareOnly 4 s)
        (fun t => (t.cpu.hl.toNat : Int) = (s.cpu.sp.toNat + e.toInt) % 65536 ∧ DispFlags t.cpu.f s.cpu.sp e) s) ∧
    (∃ t u w, exec (.addSpDisp e) s = .next t ∧ exec (.ldHlSpDisp e) s = .next u ∧ exec .ldSpHl u = .next w ∧
      w.cpu.sp = t.cpu.sp ∧ w.cpu.f = t.cpu.f)

/-! ## Rotates, shifts and bits -/

/-- R180 to R183: A rotates as RLC, RRC, RL and RR do, the carry takes the bit moved out, and Z is 0 whatever the result. -/
def Obligations.AccumulatorRotates : Prop :=
  ∀ (s : State) (i : Instr) (op : ShiftOp) (code : Byte),
    (i, op, code) ∈ [(Instr.rlca, ShiftOp.rlc, 0x07#8), (.rrca, .rrc, 0x0F#8), (.rla, .rl, 0x17#8), (.rra, .rr, 0x1F#8)] →
    encode i = [code] ∧
    Ends i [.reg .a, .flags] 0
      (fun t => t.cpu.a.toNat = shiftNumber op s.cpu.a.toNat s.cpu.f.c.toNat ∧
        FlagsAre t.cpu.f False False False (shiftCarryOut op s.cpu.a = true)) s

/-- R184 to R191 with the operand of R192 (the 64 rows `cbRlcB` … `cbSrlA`): the operand takes the shifted value; Z follows it, N
and H are cleared, C is the bit moved out; the memory form writes where it read, and the flags last. -/
def Obligations.ExtendedShifts : Prop :=
  ∀ (op : ShiftOp) (o : Operand8) (s : State),
    encode (Instr.cbShift op o) = [0xCB#8, 0b00#2 ++ shiftCode op ++ operandCode o] ∧
    Rewrites (Instr.cbShift op o) o (shifted op s.cpu.f.c) (some (shiftedFlags op s.cpu.f.c)) s

/-- R195 (the 64 rows `cbBit0B` … `cbBit7A`), R196 and R197 (the 128 rows `cbRes0B` … `cbSet7A`): BIT shows the complement of the
bit in Z and writes nothing back; RES and SET make the bit 0 or 1, keep the other bits and write no flag. -/
def Obligations.SingleBitInstructions : Prop :=
  ∀ (k : Fin 8) (o : Operand8) (s : State),
    let tested (v : Byte) : Flags := { z := !v.getLsbD k.val, n := false, h := true, c := s.cpu.f.c }
    (encode (Instr.cbBit k o) = [0xCB#8, 0b01#2 ++ BitVec.ofNat 3 k.val ++ operandCode o] ∧
      match o with
      | .reg r => Ends (Instr.cbBit k o) [.flags] 0 (fun t => t.cpu.f = tested (s.cpu.reg r)) s
      | .atHl =>
        (∀ v, s.bus.read s.cpu.hl = .ok v → Ends (Instr.cbBit k o) [.flags] 4 (fun t => t.cpu.f = tested v) s) ∧
        (∀ kind, s.bus.read s.cpu.hl = .error kind → exec (Instr.cbBit k o) s = raise kind s)) ∧
    (∀ set : Bool, ∃ value : Byte → Byte,
      (∀ v (j : Nat), j < 8 → (value v).getLsbD j = (if j = k.val then set else v.getLsbD j)) ∧
      encode (if set then Instr.cbSet k o else Instr.cbRes k o)
        = [0xCB#8, (if set then 0b11#2 else 0b10#2) ++ BitVec.ofNat 3 k.val ++ operandCode o] ∧
      Rewrites (if set then Instr.cbSet k o else Instr.cbRes k o) o value none s)

/-- The model's choice for the table's row PREFIX_CB (assumption log 12), beside R115: the row with second byte `op2` runs the
extended row `op2`, and on a register operand it completes. -/
def Obligations.PrefixRowRunsTheExtendedRow : Prop :=
  ∀ (op2 : Byte) (s : State),
    exec (.prefixCb op2) s = exec (decodeExt op2) s ∧
    encode (decodeExt op2) = [0xCB#8, op2] ∧
    (op2.toNat % 8 ≠ 6 → ∃ t, exec (.prefixCb op2) s = .next t ∧ t.bus = s.bus ∧ t.tally = s.tally)

/-! ## Control -/

/-- R200 to R205 (`jpNn`, the 4 rows `jpNzNn` … `jpCyNn`, `jpHl`, `jrDisp`, the 4 rows `jrNzDisp` … `jrCyDisp`): pc takes the target,
or stays past the instruction where the condition fails; a taken jump other than JP HL costs 4 more cycles under `Hardware`. -/
def Obligations.Jumps : Prop :=
  ∀ (cc : Cond) (nn : Word) (e : Byte) (s : State),
    let target : Word := BitVec.ofInt 16 (s.cpu.pc.toNat + e.toInt)
    let holds : Bool := match cc with
      | .nz => !s.cpu.f.z
      | .z => s.cpu.f.z
      | .nc => !s.cpu.f.c
      | .c => s.cpu.f.c
    (encode (.jpNn nn) = [0xC3#8, loByte nn, hiByte nn] ∧
      Ends (.jpNn nn) [.pc] (hardwareOnly 4 s) (fun t => t.cpu.pc = nn) s) ∧
    (encode (Instr.jpCond cc nn) = [0b110#3 ++ condCode cc ++ 0b010#3, loByte nn, hiByte nn] ∧
      Ends (Instr.jpCond cc nn) [.pc] (if holds then hardwareOnly 4 s else 0)
        (fun t => t.cpu.pc = if holds then nn else s.cpu.pc) s) ∧
    (encode .jpHl = [0xE9#8] ∧ Ends .jpHl [.pc] 0 (fun t => t.cpu.pc = s.cpu.hl) s) ∧
    (encode (.jrDisp e) = [0x18#8, e] ∧
      Ends (.jrDisp e) [.pc] (hardwareOnly 4 s) (fun t => t.cpu.pc = target) s) ∧
    (encode (Instr.jrCond cc e) = [0b001#3 ++ condCode cc ++ 0b000#3, e] ∧
      Ends (Instr.jrCond cc e) [.pc] (if holds then hardwareOnly 4 s else 0)
        (fun t => t.cpu.pc = if holds then target else s.cpu.pc) s)

/-- R206, R207 (`callNn` and the 4 rows `callNzNn` … `callCyNn`) and R210 (the 8 rows `rst00` … `rst38`): the address after the
instruction is pushed and pc takes the target; a call not taken changes nothing. -/
def Obligations.CallsAndRestarts : Prop :=
  ∀ (cc : Cond) (nn : Word) (y : Fin 8) (s : State),
    (encode (.callNn nn) = [0xCD#8, loByte nn, hiByte nn] ∧
      Pushes (.callNn nn) s.cpu.pc [.pc] 4 (fun t => t.cpu.pc = nn) s) ∧
    (encode (Instr.callCond cc nn) = [0b110#3 ++ condCode cc ++ 0b100#3, loByte nn, hiByte nn] ∧
      (condHolds cc s.cpu.f = true → Pushes (Instr.callCond cc nn) s.cpu.pc [.pc] 4 (fun t => t.cpu.pc = nn) s) ∧
      (condHolds cc s.cpu.f = false → Ends (Instr.callCond cc nn) [] 0 (fun _ => True) s)) ∧
    (encode (Instr.rst y) = [0b11#2 ++ BitVec.ofNat 3 y.val ++ 0b111#3] ∧
      Pushes (Instr.rst y) s.cpu.pc [.pc] 4 (fun t => t.cpu.pc.toNat = 8 * y.val) s)

/-- R208, R209 (`ret` and the 4 rows `retNz` … `retCy`) and R211 (`reti`): pc takes the popped word; RETI sets IME besides and
clears `ei_pending`; a return not taken changes nothing and costs 4 more cycles under `Hardware`.
That RETI clears `ei_pending` whatever EI_DELAY is the model's reading (assumption log 17). -/
def Obligations.Returns : Prop :=
  ∀ (cc : Cond) (s : State),
    (encode .ret = [0xC9#8] ∧ Pops .ret [.pc] 4 (fun v t => t.cpu.pc = v) s) ∧
    (encode (Instr.retCond cc) = [0b110#3 ++ condCode cc ++ 0b000#3] ∧
      (condHolds cc s.cpu.f = true → Pops (Instr.retCond cc) [.pc] 8 (fun v t => t.cpu.pc = v) s) ∧
      (condHolds cc s.cpu.f = false → Ends (Instr.retCond cc) [] (hardwareOnly 4 s) (fun _ => True) s)) ∧
    (encode .reti = [0xD9#8] ∧
      Pops .reti [.pc, .ime, .eiPending] 4 (fun v t => t.cpu.pc = v ∧ t.cpu.ime = true ∧ t.cpu.eiPending = 0#2) s)

/-! ## System -/

/-- R215, R218, R219: NOP changes nothing; DI clears IME and `ei_pending`; EI sets IME at once, or with EI_DELAY starts the count of
2 if IME is clear. -/
def Obligations.NopDiEi : Prop :=
  ∀ (s : State),
    (encode .nop = [0x00#8] ∧ Ends .nop [] 0 (fun _ => True) s) ∧
    (encode .di = [0xF3#8] ∧ Ends .di [.ime, .eiPending] 0 (fun t => t.cpu.ime = false ∧ t.cpu.eiPending = 0#2) s) ∧
    (encode .ei = [0xFB#8] ∧ Ends .ei [.ime, .eiPending] 0
      (fun t => if s.bus.params.eiDelay = false then t.cpu.ime = true ∧ t.cpu.eiPending = s.cpu.eiPending
        else t.cpu.ime = s.cpu.ime ∧ t.cpu.eiPending = if s.cpu.ime = false then 2#2 else s.cpu.eiPending) s)

/-- R216: HALT sets `halted` where IME is set or an EI is counting down; otherwise it is a one-byte no-op. -/
def Obligations.HaltSetsHalted : Prop :=
  ∀ (s : State),
    encode .halt = [0x76#8] ∧
    Ends .halt [.halted] 0
      (fun t => t.cpu.halted =
        if s.cpu.ime = true ∨ s.bus.params.eiDelay = true ∧ 0 < s.cpu.eiPending.toNat then true else s.cpu.halted) s

/-- R217 and R113: STOP, of which the opcode alone is fetched, is refused as `Unmodelled`, and each of the 11 illegal bytes faults as
`IllegalOpcode`, with the opcode's address, which is one before pc, and no other change. -/
def Obligations.StopAndIllegalBytesStop : Prop :=
  ∀ (s : State),
    decode [0x10#8] = .ok .stop ∧ fetchedLength .stop = 1 ∧
    (exec .stop s = .refused (.unmodelled (s.cpu.pc - 1#16) 0x10#8
      { s with status := .unmodelled (s.cpu.pc - 1#16) 0x10#8 })) ∧
    (∀ op, op ∈ [0xD3#8, 0xDB#8, 0xDD#8, 0xE3#8, 0xE4#8, 0xEB#8, 0xEC#8, 0xED#8, 0xF4#8, 0xFC#8, 0xFD#8] →
      ∃ i, decode [op] = .ok i ∧ encode i = [op] ∧
        exec i s = .fault (.illegalOpcode (s.cpu.pc - 1#16) op { s with status := .faulted (.illegalOpcode (s.cpu.pc - 1#16) op) }))

/-! ## All instructions -/

/-- R17 (a flag not named is unchanged), R23, the flags of R143 to R145, R150 to R174 and R180 to R197, and the flags column of
spec/opcode_table.json, which agrees with them: every instruction that ends in a next state treats each flag as its row says, kept,
cleared, set or computed. -/
def Obligations.FlagsFollowTheOpcodeTable : Prop :=
  ∀ (i : Instr) (s t : State), i.wellFormed = true → exec i s = .next t →
    i.flagColumn.z.Allows s.cpu.f.z t.cpu.f.z ∧ i.flagColumn.n.Allows s.cpu.f.n t.cpu.f.n ∧
    i.flagColumn.h.Allows s.cpu.f.h t.cpu.f.h ∧ i.flagColumn.c.Allows s.cpu.f.c t.cpu.f.c

/-- R315, R316 and the cycles column of the table: 4 for each byte fetched and what `exec` adds are together the row's count for the
timing in force and the path taken. -/
def Obligations.CyclesFollowTheOpcodeTable : Prop :=
  ∀ (i : Instr) (s t : State), i.wellFormed = true → exec i s = .next t → s.tally = 4 * fetchedLength i →
    ∃ column, i.cycleColumn = some column ∧ t.tally = column.of s.bus.params.timing (i.taken s.cpu.f)

/-- R230, R232 and R287 read together: what is behind the bus changes only by the instruction's own byte writes, at the addresses
`storeAddrs` computes; an instruction that stores nothing leaves all of it. -/
def Obligations.BusChangesOnlyByStores : Prop :=
  ∀ (i : Instr) (s t : State), exec i s = .next t →
    ∃ bytes : List Byte, bytes.length = (storeAddrs i s).length ∧ writeAll ((storeAddrs i s).zip bytes) s.bus = .ok t.bus

/-- The memory frame of every instruction, from R88, R89 and R94: an address that none of the instruction's stores disturbs reads
after it as before; where it stores nothing, every address does. -/
def Obligations.UndisturbedAddressesKeepTheirByte : Prop :=
  ∀ (i : Instr) (s t : State) (a : Word), exec i s = .next t →
    (∀ w, w ∈ storeAddrs i s → disturbs s.bus w a = false) → t.bus.read a = s.bus.read a

/-- R26 and R27: IME is written by DI, EI and RETI alone, `ei_pending` by the same three, and `halted` by HALT alone; no instruction
changes the launch parameters, the cartridge's image, the boot image or the keys, or sets the boot latch (R34, R37, R52). -/
def Obligations.OnlyTheirOwnInstructionsWriteTheLatches : Prop :=
  ∀ (i : Instr) (s t : State), exec i s = .next t →
    (t.cpu.ime ≠ s.cpu.ime ∨ t.cpu.eiPending ≠ s.cpu.eiPending → i = .di ∨ i = .ei ∨ i = .reti) ∧
    (t.cpu.halted ≠ s.cpu.halted → i = .halt) ∧
    t.bus.params = s.bus.params ∧ t.bus.cart.rom = s.bus.cart.rom ∧ t.bus.cart.romCode = s.bus.cart.romCode ∧
    t.bus.cart.ramSize = s.bus.cart.ramSize ∧ t.bus.boot = s.bus.boot ∧ t.bus.input.keys = s.bus.input.keys ∧
    (t.bus.booting = true → s.bus.booting = true)

/-! ## Encodings -/

/-- R110 to R116: decoding the encoding of a well-formed instruction, whatever bytes follow it, gives the instruction with every
operand. -/
def Obligations.DecodeReadsBackEncode : Prop :=
  ∀ (i : Instr) (rest : List Byte), i.wellFormed = true → decode (encode i ++ rest) = .ok i

/-- R110 to R114: what the decoder reads is well formed, and its encoding is the bytes that were read; of STOP the second byte is not
looked at.
STOP's encoding ends in 0x00 by the spec's convention (assumption log 15). -/
def Obligations.EncodeGivesBackTheBytes : Prop :=
  ∀ (bytes : List Byte) (i : Instr), decode bytes = .ok i →
    i.wellFormed = true ∧ fetchedLength i ≤ bytes.length ∧
    (encode i).take (fetchedLength i) = bytes.take (fetchedLength i)

/-- Words written out from the encodings of files 40 to 47, one or more of each family, decode to their instructions. -/
def Obligations.SampleWordsDecode : Prop :=
  decode [0b01111000#8] = .ok .ldAB ∧ decode [0b00111110#8, 0xFF#8] = .ok (.ldAN 0xFF#8) ∧
  decode [0b00100010#8] = .ok .ldAtHlIncA ∧ decode [0b11100000#8, 0x46#8] = .ok (.ldhAtNA 0x46#8) ∧
  decode [0b00110001#8, 0xFE#8, 0xDF#8] = .ok (.ldSpNn 0xDFFE#16) ∧ decode [0b11110101#8] = .ok .pushAf ∧
  decode [0b10001110#8] = .ok .adcAAtHl ∧ decode [0b11010110#8, 0x01#8] = .ok (.subN 0x01#8) ∧
  decode [0b00110101#8] = .ok .decAtHl ∧ decode [0b00101001#8] = .ok .addHlHl ∧
  decode [0b11111000#8, 0xFF#8] = .ok (.ldHlSpDisp 0xFF#8) ∧ decode [0b00011111#8] = .ok .rra ∧
  decode [0b11001011#8, 0b00110111#8] = .ok .cbSwapA ∧ decode [0b11001011#8, 0b01111110#8] = .ok .cbBit7AtHl ∧
  decode [0b11001011#8, 0b10011000#8] = .ok .cbRes3B ∧ decode [0b11001011#8, 0b11000110#8] = .ok .cbSet0AtHl ∧
  decode [0b11011010#8, 0x50#8, 0x01#8] = .ok (.jpCyNn 0x0150#16) ∧ decode [0b00110000#8, 0xFD#8] = .ok (.jrNcDisp 0xFD#8) ∧
  decode [0b11001101#8, 0x00#8, 0x02#8] = .ok (.callNn 0x0200#16) ∧ decode [0b11101111#8] = .ok .rst28 ∧
  decode [0b11011001#8] = .ok .reti ∧ decode [0b01110110#8] = .ok .halt ∧ decode [0b11111011#8] = .ok .ei ∧
  decode [0b00010000#8] = .ok .stop ∧ decode [0b11010011#8] = .ok .illegalD3

/-! ## The bus -/

/-- R62: on the unmapped ranges, and for reads of 0xFF46 and 0xFF50, `Strict` raises `BusFault` with the address and the direction;
`Lenient` reads 0xFF and drops the write. No other access raises `BusFault`. -/
def Obligations.UnmappedAccessPolicy : Prop :=
  ∀ (b : Bus) (a : Word) (v : Byte),
    (UnreadableAddr a → (b.params.busPolicy = .strict → b.read a = .error (.busFault a .read)) ∧
      (b.params.busPolicy = .lenient → b.read a = .ok 0xFF#8)) ∧
    (Unmapped a → (b.params.busPolicy = .strict → b.write a v = .error (.busFault a .write)) ∧
      (b.params.busPolicy = .lenient → b.write a v = .ok b)) ∧
    (∀ at_ access, b.read a = .error (.busFault at_ access) →
      UnreadableAddr a ∧ b.params.busPolicy = .strict ∧ at_ = a ∧ access = .read) ∧
    (∀ at_ access, b.write a v = .error (.busFault at_ access) →
      Unmapped a ∧ b.params.busPolicy = .strict ∧ at_ = a ∧ access = .write)

/-- R60, R62, R77, R91: a read completes unless it is unmapped under `Strict` or finds no cartridge RAM; a write completes under the
same conditions, except at 0xFF46, where it needs a source page from 0x80 to 0xDF that can be read. -/
def Obligations.MappedAccessesComplete : Prop :=
  ∀ (b : Bus) (a : Word) (v : Byte),
    ((∃ w, b.read a = .ok w) ↔ ¬ (UnreadableAddr a ∧ b.params.busPolicy = .strict) ∧ ¬ CartRamAbsent b a) ∧
    (a ≠ 0xFF46#16 →
      ((∃ b', b.write a v = .ok b') ↔ ¬ (Unmapped a ∧ b.params.busPolicy = .strict) ∧ ¬ CartRamAbsent b a)) ∧
    ((∃ b', b.write 0xFF46#16 v = .ok b') ↔
      0x80 ≤ v.toNat ∧ v.toNat ≤ 0xDF ∧ ¬ CartRamAbsent b (wordOf v 0x00#8))

/-- R63, R64, R65: a write to work RAM, through the window or its mirror, and to high RAM is read back at the same address and, for
work RAM, at the other one; every other byte of the array, and everything else behind the bus, stays. -/
def Obligations.RamHoldsWhatWasWritten : Prop :=
  ∀ (b : Bus) (a : Word) (v : Byte),
    (0xC000 ≤ a.toNat → a.toNat < 0xDE00 → ∃ b', b.write a v = .ok b' ∧ b.write (a + 0x2000#16) v = .ok b' ∧
      b'.read a = .ok v ∧ b'.read (a + 0x2000#16) = .ok v ∧ b.read (a + 0x2000#16) = b.read a ∧ b' = { b with wram := b'.wram } ∧
      ∀ k, k ≠ a.toNat - 0xC000 → b'.wram.read k = b.wram.read k) ∧
    (0xDE00 ≤ a.toNat → a.toNat < 0xE000 → ∃ b', b.write a v = .ok b' ∧ b'.read a = .ok v ∧ b' = { b with wram := b'.wram } ∧
      ∀ k, k ≠ a.toNat - 0xC000 → b'.wram.read k = b.wram.read k) ∧
    (0xFF80 ≤ a.toNat → a.toNat < 0xFFFF → ∃ b', b.write a v = .ok b' ∧ b'.read a = .ok v ∧ b' = { b with hram := b'.hram } ∧
      ∀ k, k ≠ a.toNat - 0xFF80 → b'.hram.read k = b.hram.read k)

/-- R66 and R67: VRAM is reached in every mode but 3, OAM in modes 0 and 1 only, one byte at a time; where it is not reached a read
gives 0xFF and a write is dropped. -/
def Obligations.VideoMemoryGates : Prop :=
  ∀ (b : Bus) (a : Word) (v : Byte),
    (0x8000 ≤ a.toNat → a.toNat < 0xA000 →
      if b.ppu.mode.code = 3#2 then b.read a = .ok 0xFF#8 ∧ b.write a v = .ok b
      else b.read a = .ok (b.vram.read (a.toNat - 0x8000)) ∧
        ∃ b', b.write a v = .ok b' ∧ b'.read a = .ok v ∧ b' = { b with vram := b'.vram } ∧
          ∀ k, k ≠ a.toNat - 0x8000 → b'.vram.read k = b.vram.read k) ∧
    (0xFE00 ≤ a.toNat → a.toNat < 0xFEA0 →
      if b.ppu.mode.code = 2#2 ∨ b.ppu.mode.code = 3#2 then b.read a = .ok 0xFF#8 ∧ b.write a v = .ok b
      else b.read a = .ok (b.oam.read (a.toNat - 0xFE00)) ∧
        ∃ b', b.write a v = .ok b' ∧ b'.read a = .ok v ∧ b' = { b with oam := b'.oam } ∧
          ∀ k, k ≠ a.toNat - 0xFE00 → b'.oam.read k = b.oam.read k)

/-- R70 and R71: a write below 0x8000 sets the one latch of its window, from the low bits of the byte, and changes nothing else. -/
def Obligations.BankingLatchWrites : Prop :=
  ∀ (b : Bus) (a : Word) (v : Byte), a.toNat < 0x8000 →
    b.write a v = .ok { b with cart :=
      if a.toNat < 0x2000 then { b.cart with ramEn := decide (v.toNat % 16 = 0xA) }
      else if a.toNat < 0x4000 then { b.cart with bankLo := BitVec.ofNat 5 v.toNat }
      else if a.toNat < 0x6000 then { b.cart with bankHi := BitVec.ofNat 2 v.toNat }
      else { b.cart with bankMode := decide (v.toNat % 2 = 1) } }

/-- R72, R73, R76, R79: the fixed window reads the image's first bank, the other window the bank of R73; a request of 0 gives bank
1, any other request its remainder modulo the bank count, one further for 0x20, 0x40 and 0x60. -/
def Obligations.RomWindows : Prop :=
  ∀ (b : Bus) (a : Word),
    (a.toNat < 0x4000 → (0x100 ≤ a.toNat ∨ b.booting = false) → b.read a = .ok (b.cart.rom.read a.toNat)) ∧
    (0x4000 ≤ a.toNat → a.toNat < 0x8000 →
      b.read a = .ok (b.cart.rom.read (romBankNumber b.cart * 0x4000 + (a.toNat - 0x4000)))) ∧
    romBankNumber b.cart < b.cart.nRom ∧ b.cart.romBank = romBankNumber b.cart

/-- R74 and R77: the RAM window is closed while `ram_en` is 0; open, it reaches the one byte at the bank's offset modulo the RAM size,
or faults where there is no RAM. A write leaves every other byte of the RAM, mapped or not. -/
def Obligations.ExternalRamWindow : Prop :=
  ∀ (b : Bus) (a : Word) (v : Byte), 0xA000 ≤ a.toNat → a.toNat < 0xC000 →
    let bank : Nat := if b.cart.bankMode then b.cart.bankHi.toNat else 0
    let off : Nat := (bank * 0x2000 + (a.toNat - 0xA000)) % b.cart.ramSize.bytes
    if b.cart.ramEn = false then b.read a = .ok 0xFF#8 ∧ b.write a v = .ok b
    else if b.cart.ramSize.bytes = 0 then b.read a = .error (.cartRamAbsent a) ∧ b.write a v = .error (.cartRamAbsent a)
    else b.read a = .ok (b.cart.eram.read off) ∧
      ∃ b', b.write a v = .ok b' ∧ b'.read a = .ok v ∧ b' = { b with cart := { b.cart with eram := b'.cart.eram } } ∧
        ∀ k, k ≠ off → b'.cart.eram.read k = b.cart.eram.read k

/-- R30, R31, R36, R38 to R41, R44, R45, R48, R49 and the summary of R54: what each plain I/O register reads and what a write to it
stores. LCDC, STAT and LYC have statements of their own. -/
def Obligations.PlainRegisters : Prop :=
  ∀ (b : Bus) (v : Byte),
    (b.read 0xFF0F#16 = .ok b.intFlag ∧ b.write 0xFF0F#16 v = .ok { b with intFlag := v }) ∧
    (b.read 0xFFFF#16 = .ok b.intEnable ∧ b.write 0xFFFF#16 v = .ok { b with intEnable := v }) ∧
    (b.write 0xFF00#16 v = .ok { b with input := { b.input with sel := BitVec.ofNat 2 (v.toNat / 16) } }) ∧
    (b.read 0xFF04#16 = .ok (BitVec.ofNat 8 (b.timer.counter.toNat / 256)) ∧
      b.write 0xFF04#16 v = .ok { b with timer := { b.timer with counter := 0#16 } }) ∧
    (b.read 0xFF05#16 = .ok b.timer.tima ∧ b.write 0xFF05#16 v = .ok { b with timer := { b.timer with tima := v } }) ∧
    (b.read 0xFF06#16 = .ok b.timer.tma ∧ b.write 0xFF06#16 v = .ok { b with timer := { b.timer with tma := v } }) ∧
    (b.read 0xFF07#16 = .ok (BitVec.ofNat 8 (0xF8 + b.timer.tac.toNat)) ∧
      b.write 0xFF07#16 v = .ok { b with timer := { b.timer with tac := BitVec.ofNat 3 v.toNat } }) ∧
    (b.read 0xFF42#16 = .ok b.ppu.scy ∧ b.write 0xFF42#16 v = .ok { b with ppu := { b.ppu with scy := v } }) ∧
    (b.read 0xFF43#16 = .ok b.ppu.scx ∧ b.write 0xFF43#16 v = .ok { b with ppu := { b.ppu with scx := v } }) ∧
    (b.read 0xFF44#16 = .ok (BitVec.ofNat 8 b.ppu.ly) ∧ b.write 0xFF44#16 v = .ok b) ∧
    (b.read 0xFF47#16 = .ok b.ppu.bgp ∧ b.write 0xFF47#16 v = .ok { b with ppu := { b.ppu with bgp := v } }) ∧
    (b.read 0xFF48#16 = .ok b.ppu.obp0 ∧ b.write 0xFF48#16 v = .ok { b with ppu := { b.ppu with obp0 := v } }) ∧
    (b.read 0xFF49#16 = .ok b.ppu.obp1 ∧ b.write 0xFF49#16 v = .ok { b with ppu := { b.ppu with obp1 := v } }) ∧
    (b.read 0xFF4A#16 = .ok b.ppu.wy ∧ b.write 0xFF4A#16 v = .ok { b with ppu := { b.ppu with wy := v } }) ∧
    (b.read 0xFF4B#16 = .ok b.ppu.wx ∧ b.write 0xFF4B#16 v = .ok { b with ppu := { b.ppu with wx := v } })

/-- R42, R43, R46, R271, R277: LCDC, STAT and LYC read back; STAT stores bits 6 to 3; STAT and LYC writes re-evaluate the
coincidence; a change of LCDC bit 7, gated, puts the PPU at the start of mode 0 or 2 on line 0 and raises no mode request.
That switching on puts the PPU on line 0 is the model's reading (assumption log 14). -/
def Obligations.PpuRegisterWrites : Prop :=
  ∀ (b : Bus) (v : Byte),
    let compared (p : Ppu) : Ppu :=
      { p with coin := decide (p.ly = p.lyc.toNat)
               reqStat := p.reqStat || (decide (p.ly = p.lyc.toNat) && p.statEn.getLsbD 3) }
    let switched : Ppu :=
      if b.params.lcdGates = true ∧ v.getLsbD 7 ≠ b.ppu.lcdc.getLsbD 7 then
        compared { b.ppu with lcdc := v, mode := if v.getLsbD 7 then .oamSearch else .hBlank, clock := 0, ly := 0 }
      else { b.ppu with lcdc := v }
    (b.read 0xFF40#16 = .ok b.ppu.lcdc ∧ b.read 0xFF45#16 = .ok b.ppu.lyc ∧
      b.read 0xFF41#16 = .ok (BitVec.ofNat 8 (0x80 + 8 * b.ppu.statEn.toNat + 4 * b.ppu.coin.toNat + b.ppu.mode.code.toNat))) ∧
    (b.write 0xFF41#16 v = .ok { b with ppu := compared { b.ppu with statEn := BitVec.ofNat 4 (v.toNat / 8) } }) ∧
    (b.write 0xFF45#16 v = .ok { b with ppu := compared { b.ppu with lyc := v } }) ∧
    (b.write 0xFF40#16 v = .ok { b with ppu := switched })

/-- R90, R91, R92: a write of a page outside 0x80 to 0xDF faults; otherwise, the source being readable, OAM takes the 160 bytes of
the page where the OAM gate is open and stays as it is where it is closed, and nothing else changes. -/
def Obligations.OamDmaCopies : Prop :=
  ∀ (b : Bus) (page : Byte),
    (page.toNat < 0x80 ∨ 0xDF < page.toNat → b.write 0xFF46#16 page = .error (.dmaSource page)) ∧
    (0x80 ≤ page.toNat → page.toNat ≤ 0xDF → ¬ CartRamAbsent b (wordOf page 0x00#8) →
      ∃ b', b.write 0xFF46#16 page = .ok b' ∧ b' = { b with oam := b'.oam } ∧ (∀ k, 160 ≤ k → b'.oam.read k = b.oam.read k) ∧
        if b.ppu.oamOpen = true then ∀ k, k < 160 → b.read (wordOf page (BitVec.ofNat 8 k)) = .ok (b'.oam.read k)
        else b'.oam = b.oam) ∧
    (0x80 ≤ page.toNat → page.toNat ≤ 0xDF → CartRamAbsent b (wordOf page 0x00#8) →
      b.write 0xFF46#16 page = .error (.cartRamAbsent (wordOf page 0x00#8)))

/-- R34, R35, R61: while booting, reads below 0x0100 give the boot image; the other reads, and every write but that to 0xFF50, do what
they do after boot and leave the latch; a write to 0xFF50 clears the latch and nothing else; a step that ends with the latch set began
with it set, and was a halted step or fetched its opcode below 0x0100. That the byte after the prefix does not count as an opcode
fetch is the model's reading (assumption log 11). -/
def Obligations.BootLatch : Prop :=
  (∀ (b : Bus) (a : Word) (v : Byte),
    (b.booting = true → a.toNat < 0x100 → b.read a = .ok (b.boot.read a.toNat)) ∧
    (b.booting = false ∨ 0x100 ≤ a.toNat → b.read a = ({ b with booting := false } : Bus).read a) ∧
    (a ≠ 0xFF50#16 →
      b.write a v = (({ b with booting := false } : Bus).write a v).map fun b' => { b' with booting := b.booting }) ∧
    (b.write 0xFF50#16 v = .ok { b with booting := false })) ∧
  (∀ (s t : State), step s = .next t → t.bus.booting = true →
    s.bus.booting = true ∧ (s.cpu.halted = true ∨ s.cpu.pc.toNat < 0x100))

/-! ## Time -/

/-- R260, R261, R262: the counter advances by `n` modulo 2^16; with the enable bit set, `k` edges, one for each multiple of the
divisor passed, count TIMA on; past 0xFF it reloads TMA and counts on from there, and a request is raised. -/
def Obligations.TimerAdvance : Prop :=
  ∀ (t : Timer) (n : Nat),
    let divisor : Nat := match t.tac.toNat % 4 with
      | 0 => 1024
      | 1 => 16
      | 2 => 64
      | _ => 256
    let k : Nat := if 4 ≤ t.tac.toNat then (t.counter.toNat + n) / divisor - t.counter.toNat / divisor else 0
    let u := t.advance n
    u.counter.toNat = (t.counter.toNat + n) % 65536 ∧ u.tma = t.tma ∧ u.tac = t.tac ∧
    u.tima.toNat = (if t.tima.toNat + k ≤ 0xFF then t.tima.toNat + k
      else t.tma.toNat + (t.tima.toNat + k - 256) % (256 - t.tma.toNat)) ∧
    (u.req = true ↔ t.req = true ∨ 0xFF < t.tima.toNat + k)

/-- R270, R273, R275, R278: the PPU running, its place in the frame of 70224 cycles advances by `n` modulo 70224; a full frame brings
mode, clock and line back, and the V-Blank request is raised exactly when the advance reaches line 144. -/
def Obligations.PpuKeepsFrameTime : Prop :=
  ∀ (gates : Bool) (p : Ppu) (n : Nat), PpuOk gates p → p.stopped gates = false →
    let q := p.advance gates n
    PpuOk gates q ∧ framePosition q = (framePosition p + n) % 70224 ∧
    (q.reqVblank = true ↔ p.reqVblank = true ∨ (framePosition p + 4560) / 70224 < (framePosition p + n + 4560) / 70224) ∧
    (n = 70224 → q.mode = p.mode ∧ q.clock = p.clock ∧ q.ly = p.ly ∧ q.coin = p.coin)

/-- R241: `update(a); update(c)` leaves the same state as `update(a + c)`. -/
def Obligations.UpdateIsAdditive : Prop :=
  ∀ (b : Bus) (m n : Nat), (b.update m).update n = b.update (m + n)

/-- R270, R271, R274, R276, R277: gated off by LCDC bit 7, the PPU stands still. Running, a cycle inside a mode only counts; the last
cycle of a mode makes the transition of R270, with the mode request of R276 and, on a new line, the coincidence of R277. -/
def Obligations.PpuTransitions : Prop :=
  ∀ (gates : Bool) (p : Ppu),
    (gates = true ∧ p.lcdc.getLsbD 7 = false → p.stopped gates = true ∧ ∀ n, p.advance gates n = p) ∧
    (¬ (gates = true ∧ p.lcdc.getLsbD 7 = false) → p.stopped gates = false) ∧
    (p.stopped gates = false →
      let q := p.advance gates 1
      let line (ly : Nat) (mode : PpuMode) (request : Bool) : Ppu :=
        { p with clock := 0, ly := ly, mode := mode, coin := decide (ly = p.lyc.toNat)
                 reqStat := p.reqStat || (decide (ly = p.lyc.toNat) && p.statEn.getLsbD 3) || request }
      (p.clock + 1 < p.mode.duration → q = { p with clock := p.clock + 1 }) ∧
      (p.clock + 1 = p.mode.duration →
        q = match p.mode with
          | .oamSearch => { p with clock := 0, mode := .pixelTransfer }
          | .pixelTransfer => { p with clock := 0, mode := .hBlank, reqStat := p.reqStat || p.statEn.getLsbD 0 }
          | .hBlank =>
            if p.ly = 143 then ({ line 144 .vBlank (p.statEn.getLsbD 1) with reqVblank := true } : Ppu)
            else line (p.ly + 1) .oamSearch (p.statEn.getLsbD 2)
          | .vBlank =>
            if p.ly = 153 then line 0 .oamSearch (p.statEn.getLsbD 2) else line (p.ly + 1) .vBlank false))

/-- R240, R242: `update` advances the PPU and the timer and moves every request into IF: bit `k` is set after it if it was set before or
source `k`'s request is set after the advances; the requests are then clear. It writes no register that only a program writes: IE, the
PPU's control, enable, compare, scroll, palette and window registers, TMA and TAC, the selector and the keys; nor the cartridge, the
arrays, the launch parameters or the boot latch. -/
def Obligations.UpdateTakesTheRequests : Prop :=
  ∀ (b : Bus) (n k : Nat), k < 8 →
    let u := b.update n
    (u.intFlag.getLsbD k = true ↔ b.intFlag.getLsbD k = true ∨ requestBit (b.advance n) k = true) ∧
    u.ppu = { b.ppu.advance b.params.lcdGates n with reqVblank := false, reqStat := false } ∧
    u.timer = { b.timer.advance n with req := false } ∧ u.input = { b.input with req := false } ∧
    (u.ppu.lcdc = b.ppu.lcdc ∧ u.ppu.statEn = b.ppu.statEn ∧ u.ppu.lyc = b.ppu.lyc ∧ u.ppu.scy = b.ppu.scy ∧
      u.ppu.scx = b.ppu.scx ∧ u.ppu.bgp = b.ppu.bgp ∧ u.ppu.obp0 = b.ppu.obp0 ∧
      u.ppu.obp1 = b.ppu.obp1 ∧ u.ppu.wy = b.ppu.wy ∧ u.ppu.wx = b.ppu.wx) ∧
    (u.timer.tma = b.timer.tma ∧ u.timer.tac = b.timer.tac) ∧
    u.intEnable = b.intEnable ∧ u.cart = b.cart ∧ u.vram = b.vram ∧ u.oam = b.oam ∧ u.wram = b.wram ∧ u.hram = b.hram ∧
    u.params = b.params ∧ u.booting = b.booting ∧ u.boot = b.boot

/-! ## Input -/

/-- R36, R37, R285: P1 reads 0xC0, the selector and the AND of the selected nibbles of the keys; a key going down clears its bit and
raises the request, one already down changes nothing; a key going up sets its bit. -/
def Obligations.KeysAndTheirRegister : Prop :=
  ∀ (s : State) (k : Key),
    (s.bus.read 0xFF00#16 = .ok (0b11#2 ++ s.bus.input.sel ++
      ((if s.bus.input.sel.getLsbD 1 then 0xF#4 else s.bus.input.keys.extractLsb' 4 4) &&&
        (if s.bus.input.sel.getLsbD 0 then 0xF#4 else s.bus.input.keys.extractLsb' 0 4)))) ∧
    (s.bus.input.keys.getLsbD k.bit = false → s.keyDown k = s) ∧
    (s.bus.input.keys.getLsbD k.bit = true → ∃ keys, s.keyDown k =
        { s with bus := { s.bus with input := { s.bus.input with keys := keys, req := true } } } ∧
      ∀ j, j < 8 → keys.getLsbD j = if j = k.bit then false else s.bus.input.keys.getLsbD j) ∧
    (∃ keys, s.keyUp k = { s with bus := { s.bus with input := { s.bus.input with keys := keys } } } ∧
      ∀ j, j < 8 → keys.getLsbD j = if j = k.bit then true else s.bus.input.keys.getLsbD j)

/-! ## The step -/

/-- R112, R231, R25, R35, R237: the machine running and not halted, when the bytes at pc decode to an instruction, the step is `exec`
of it in the state with pc past its bytes, the tally at 4 a byte and the boot latch as the opcode fetch leaves it; after a next state
come the EI count, the update by the tally and the poll. When a byte that is still needed cannot be read, the step ends in that
fault, after the bytes before it.
That every operand byte is fetched before the instruction's first effect is the model's reading (assumption log 10), and so is that the
latch follows the address of the first byte alone, whatever the prefix's second byte (assumption log 11). -/
def Obligations.StepRunsTheDecodedInstruction : Prop :=
  ∀ (s : State) (bytes : List Byte), s.status = .running → s.cpu.halted = false →
    let latched : Bus := { s.bus with booting := s.bus.booting && decide (s.cpu.pc.toNat < 0x100) }
    let after (bus : Bus) : State :=
      { s with cpu := { s.cpu with pc := s.cpu.pc + BitVec.ofNat 16 bytes.length }, bus := bus, tally := 4 * bytes.length }
    (∀ k (h : k < bytes.length), latched.read (s.cpu.pc + BitVec.ofNat 16 k) = .ok bytes[k]) →
    (∀ i, decode bytes = .ok i → bytes.length = fetchedLength i →
      step s =
        match exec i (after latched) with
        | .next t => poll ((t.eiTick).update t.tally)
        | .fault r => .fault r
        | .refused r => .refused r) ∧
    (∀ missing kind, decode bytes = .error missing →
      latched.read (s.cpu.pc + BitVec.ofNat 16 bytes.length) = .error kind →
      step s = raise kind (after (if bytes.isEmpty then s.bus else latched)))

/-- R231, R234, R253, R288: a halted step fetches nothing: it counts 4 cycles, counts the EI delay, updates and polls. Where a source is
then pending and enabled and IME is set, it wakes through the service: a next state has `halted` and IME clear and pc at the vector, and
the step's result is 4 and the service's cost. With nothing to service and no EI counting down it leaves the CPU as it is. The fields
`tally` and `cycles` that hold the result and the total are the model's choice (assumption log 8). -/
def Obligations.HaltedStepTicksThenPolls : Prop :=
  ∀ (s : State), s.status = .running → s.cpu.halted = true →
    (step s = poll ((({ s with tally := 4 } : State).eiTick).update 4)) ∧
    (∀ i t, s.cpu.ime = true → LowestPending (s.bus.update 4) i → step s = .next t →
      t.cpu.halted = false ∧ t.cpu.ime = false ∧ t.cpu.pc.toNat = 0x40 + 8 * i ∧ t.cpu.sp = s.cpu.sp - 2#16 ∧
      t.tally = 4 + serviceCost s) ∧
    ((s.bus.params.eiDelay = false ∨ s.cpu.eiPending = 0#2) →
      (s.cpu.ime = false ∨ ∀ i, i < 5 → ((s.bus.update 4).intFlag &&& s.bus.intEnable).getLsbD i = false) →
      step s = .next { s with bus := s.bus.update 4, tally := 4, cycles := s.cycles + 4 })

/-- R231, R234, R252 to R255: with IME clear or nothing pending and enabled, the poll only closes the step; otherwise it services the
lowest pending source: the IF bit, IME, `halted` and `ei_pending` cleared, pc pushed, pc at 0x0040 + 8 i, 16 or 20 cycles updated
and added to the step's result; a fault in the push ends the step.
That `ei_pending` is cleared whatever EI_DELAY, and before the push, is the model's reading (assumption log 17). -/
def Obligations.PollServicesTheLowestInterrupt : Prop :=
  ∀ (s : State),
    (s.cpu.ime = false ∨ (∀ i, i < 5 → (s.bus.intFlag &&& s.bus.intEnable).getLsbD i = false) →
      poll s = .next { s with cycles := s.cycles + s.tally }) ∧
    (∀ i u, s.cpu.ime = true → LowestPending s.bus i → Acknowledged i s u →
      (∀ b b', u.bus.write (s.cpu.sp - 1#16) (hiByte s.cpu.pc) = .ok b → b.write (s.cpu.sp - 2#16) (loByte s.cpu.pc) = .ok b' →
        poll s = .next
          { cpu := { u.cpu with sp := s.cpu.sp - 2#16, pc := BitVec.ofNat 16 (0x40 + 8 * i) }
            bus := b'.update (serviceCost s)
            tally := s.tally + serviceCost s
            cycles := s.cycles + (s.tally + serviceCost s)
            status := s.status }) ∧
      (∀ kind, u.bus.write (s.cpu.sp - 1#16) (hiByte s.cpu.pc) = .error kind →
        poll s = raise kind (stackState (s.cpu.sp - 1#16) u.bus 0 u)) ∧
      (∀ b kind, u.bus.write (s.cpu.sp - 1#16) (hiByte s.cpu.pc) = .ok b →
        b.write (s.cpu.sp - 2#16) (loByte s.cpu.pc) = .error kind →
        poll s = raise kind (stackState (s.cpu.sp - 2#16) b 4 u)))

/-- R219, R231: without EI_DELAY the end of a step leaves the interrupt latches; with it, `ei_pending` counts down by one, and IME is
set when it reaches 0. -/
def Obligations.EiDelayCountsDown : Prop :=
  ∀ (s : State), ∃ ime ei, s.eiTick = { s with cpu := { s.cpu with ime := ime, eiPending := ei } } ∧
    (s.bus.params.eiDelay = false ∨ s.cpu.eiPending = 0#2 → ime = s.cpu.ime ∧ ei = s.cpu.eiPending) ∧
    (s.bus.params.eiDelay = true → s.cpu.eiPending = 1#2 → ime = true ∧ ei = 0#2) ∧
    (s.bus.params.eiDelay = true → 1 < s.cpu.eiPending.toNat → ime = s.cpu.ime ∧ ei.toNat + 1 = s.cpu.eiPending.toNat)

/-- R29, R234, R237: a stopped machine takes no step; a step that ends normally leaves the machine running and adds its result, at
least 4 cycles, to the total; one that stops leaves the state it stopped in with the stop recorded and the total as before.
What a stopped machine answers, and the total, are the model's choices (assumption logs 7 and 8). -/
def Obligations.StepsEndRunningOrRecorded : Prop :=
  ∀ (s : State),
    (∀ kind, s.status = .faulted kind → step s = .fault (kind.toFault s)) ∧
    (∀ addr op, s.status = .unmodelled addr op → step s = .refused (.unmodelled addr op s)) ∧
    (∀ t, step s = .next t → s.status = .running ∧ t.status = .running ∧ 4 ≤ t.tally ∧ t.tally % 4 = 0 ∧
      t.cycles = s.cycles + t.tally) ∧
    (∀ r, s.status = .running → step s = .fault r → ∃ (kind : FaultKind) (final : State), r = kind.toFault final ∧
      final.status = .faulted kind ∧ final.cycles = s.cycles) ∧
    (∀ r, s.status = .running → step s = .refused r → ∃ (addr : Word) (final : State), r = .unmodelled addr 0x10#8 final ∧
      final.status = .unmodelled addr 0x10#8 ∧ final.cycles = s.cycles)

/-! ## Invariants and reset -/

/-- Every step keeps the invariant: the PPU's timing state stays one of R270's and its coincidence flag true to LY and LYC, every
array keeps its canonical form and size, the requests are taken, the interrupt latches stay consistent, the machine runs. So do the
host's key events. -/
def Obligations.StepKeepsTheInvariant : Prop :=
  ∀ (s : State), Inv s → (∀ t, step s = .next t → Inv t) ∧ ∀ k, Inv (s.keyDown k) ∧ Inv (s.keyUp k)

/-- The invariant holds at `State.reset`, and in the reset state of every launch whose arrays are in order.
`State.reset` holds the model's choices of the launch inputs (assumption logs 1 to 5). -/
def Obligations.ResetMeetsTheInvariant : Prop :=
  Inv State.reset ∧
  ∀ (launch : Launch), ArraysOk (State.atReset launch).bus → Inv (State.atReset launch)

/-- R300 and R301: the values of the reset table in both configurations. -/
def Obligations.ResetTable : Prop :=
  ∀ (launch : Launch),
    let s := State.atReset launch
    (s.cpu.sp = 0xFFFE#16 ∧ s.cpu.ime = false ∧ s.cpu.halted = false ∧ s.cpu.eiPending = 0#2 ∧ s.status = .running) ∧
    (s.bus.intEnable = 0x00#8 ∧ RequestsTaken s.bus ∧ s.bus.input.req = false ∧ s.bus.input.keys = 0xFF#8) ∧
    (s.bus.timer.tima = 0x00#8 ∧ s.bus.timer.tma = 0x00#8 ∧ s.bus.timer.tac = 0#3) ∧
    (s.bus.ppu.statEn = 0#4 ∧ s.bus.ppu.scy = 0x00#8 ∧ s.bus.ppu.scx = 0x00#8 ∧ s.bus.ppu.lyc = 0x00#8 ∧
      s.bus.ppu.wy = 0x00#8 ∧ s.bus.ppu.wx = 0x00#8 ∧ s.bus.ppu.clock = 0 ∧ s.bus.ppu.ly = 0 ∧ s.bus.ppu.coin = true) ∧
    (s.bus.cart.ramEn = false ∧ s.bus.cart.bankLo = 0#5 ∧ s.bus.cart.bankHi = 0#2 ∧ s.bus.cart.bankMode = false ∧
      s.bus.cart.rom = launch.rom ∧ s.bus.cart.eram = launch.eram ∧ s.bus.vram = launch.vram ∧ s.bus.oam = launch.oam ∧
      s.bus.wram = launch.wram ∧ s.bus.hram = launch.hram) ∧
    (launch.bootImage = none →
      s.cpu.a = 0x01#8 ∧ s.cpu.f.toByte = 0xB0#8 ∧ s.cpu.b = 0x00#8 ∧ s.cpu.c = 0x13#8 ∧ s.cpu.d = 0x00#8 ∧ s.cpu.e = 0xD8#8 ∧
      s.cpu.h = 0x01#8 ∧ s.cpu.l = 0x4D#8 ∧ s.cpu.pc = 0x0100#16 ∧ s.bus.intFlag = 0xE1#8 ∧ s.bus.booting = false ∧
      s.bus.input.sel = 0b00#2 ∧ s.bus.timer.counter = 0xABCC#16 ∧ s.bus.ppu.lcdc = 0x91#8 ∧ s.bus.ppu.bgp = 0xFC#8 ∧
      s.bus.ppu.mode = .oamSearch) ∧
    (∀ image, launch.bootImage = some image →
      s.cpu.a = launch.regs.a ∧ s.cpu.f = launch.regs.f ∧ s.cpu.b = launch.regs.b ∧ s.cpu.c = launch.regs.c ∧
      s.cpu.d = launch.regs.d ∧ s.cpu.e = launch.regs.e ∧ s.cpu.h = launch.regs.h ∧ s.cpu.l = launch.regs.l ∧
      s.cpu.pc = 0x0000#16 ∧ s.bus.intFlag = 0x00#8 ∧ s.bus.booting = true ∧ s.bus.boot = image ∧ s.bus.input.sel = 0b11#2 ∧
      s.bus.timer.counter = 0x0000#16 ∧ s.bus.ppu.lcdc = 0x00#8 ∧ s.bus.ppu.bgp = 0x00#8 ∧ s.bus.ppu.obp0 = 0x00#8 ∧
      s.bus.ppu.obp1 = 0x00#8 ∧ s.bus.ppu.mode = (if launch.params.lcdGates then .hBlank else .oamSearch))

/-- R82, R83, R303: a machine is built exactly when the image has a header with the right checksum, a ROM-size code that gives the
image's length, a known RAM-size code, and a save file, if any, of the RAM's size. It is R300's reset state of a launch that holds the
sizes of the codes, the image, the save file or zeros, and the input's parameters, registers, boot image and memories; it meets the
invariant, and the save of R287 gives its external RAM back byte for byte. -/
def Obligations.LaunchChecksAndSave : Prop :=
  ∀ (input : LaunchInput),
    let romCode : Nat := (romByte input.rom 0x148).toNat
    let ramCode : Nat := (romByte input.rom 0x149).toNat
    let ramSizes : List (Nat × Nat) := [(0, 0), (1, 0x800), (2, 0x2000), (3, 0x8000), (4, 0x20000), (5, 0x10000)]
    let sum : Nat := (((input.rom.drop 0x134).take 25).map fun v => v.toNat + 1).sum
    ((∃ s, construct input = .ok s) ↔
      0x150 ≤ input.rom.length ∧ (sum + (romByte input.rom 0x14D).toNat) % 256 = 0 ∧
      romCode ≤ 8 ∧ input.rom.length = 0x8000 * 2 ^ romCode ∧
      ∃ size, (ramCode, size) ∈ ramSizes ∧ ∀ bytes, input.save = some bytes → bytes.length = size) ∧
    (∀ s, construct input = .ok s → Inv s ∧
      s.bus.cart.nRom = 2 * 2 ^ romCode ∧ (ramCode, s.bus.cart.ramSize.bytes) ∈ ramSizes ∧
      (∃ launch, s = State.atReset launch ∧ Supplies input launch) ∧
      ∀ bytes, input.save = some bytes → s.saveImage = bytes) ∧
    (∀ s : State, s.saveImage.length = s.bus.cart.ramSize.bytes ∧
      ∀ k (h : k < s.saveImage.length), s.saveImage[k] = s.bus.cart.eram.read k)

end
end

