-- ==== Sys2Proof/Laws/Memory.lean ====
section
/-! SUPPORT. The storage arrays: a read after a write, and the canonical form under every operation that makes or changes an array. -/

namespace Sys2Proof.Laws

open Sys2Proof.Machine Sys2Proof.Safety

/-! ## Read after write -/

theorem read_erase_same (m : Memory) (k : Nat) : (m.erase k).read k = Config.unlisted := by
  induction m with
  | nil => rfl
  | cons cell rest ih =>
    obtain ⟨key, w⟩ := cell
    by_cases h : key = k <;> simp [Memory.erase, Memory.read, h, ih]

theorem read_erase_other (m : Memory) {k j : Nat} (h : j ≠ k) : (m.erase k).read j = m.read j := by
  induction m with
  | nil => rfl
  | cons cell rest ih =>
    obtain ⟨key, w⟩ := cell
    by_cases hk : key = k
    · simp [Memory.erase, Memory.read, hk, ih, Ne.symm h]
    · simp [Memory.erase, Memory.read, hk, ih]

theorem read_insert_erase_same (m : Memory) (k : Nat) (v : Byte) : ((m.erase k).insert k v).read k = v := by
  induction m with
  | nil => simp [Memory.erase, Memory.insert, Memory.read]
  | cons cell rest ih =>
    obtain ⟨key, w⟩ := cell
    by_cases hk : key = k
    · simpa [Memory.erase, hk] using ih
    · by_cases hlt : k < key <;> simp [Memory.erase, Memory.insert, Memory.read, hk, hlt, ih]

theorem read_insert_other (m : Memory) {k j : Nat} (h : j ≠ k) (v : Byte) : (m.insert k v).read j = m.read j := by
  induction m with
  | nil => simp [Memory.insert, Memory.read, Ne.symm h]
  | cons cell rest ih =>
    obtain ⟨key, w⟩ := cell
    by_cases hlt : k < key <;> simp [Memory.insert, Memory.read, hlt, Ne.symm h, ih]

/-- A byte reads back as it was written. -/
@[simp] theorem read_write_same (m : Memory) (k : Nat) (v : Byte) : (m.write k v).read k = v := by
  unfold Memory.write
  split
  · rename_i h; rw [read_erase_same, h]
  · exact read_insert_erase_same m k v

/-- A write leaves every other byte. -/
theorem read_write_other (m : Memory) {k j : Nat} (h : j ≠ k) (v : Byte) : (m.write k v).read j = m.read j := by
  unfold Memory.write
  split
  · exact read_erase_other m h
  · rw [read_insert_other _ h, read_erase_other m h]

/-! ## The canonical form -/

theorem wfFrom_mono {m : Memory} {lo lo' : Nat} (h : Memory.wfFrom lo m = true) (hle : lo' ≤ lo) : Memory.wfFrom lo' m = true := by
  cases m with
  | nil => rfl
  | cons cell rest =>
    obtain ⟨key, w⟩ := cell
    simp only [Memory.wfFrom, Bool.and_eq_true, decide_eq_true_eq] at h ⊢
    exact ⟨⟨by omega, h.1.2⟩, h.2⟩

theorem wfFrom_erase {m : Memory} {lo : Nat} (h : Memory.wfFrom lo m = true) (k : Nat) : Memory.wfFrom lo (m.erase k) = true := by
  induction m generalizing lo with
  | nil => rfl
  | cons cell rest ih =>
    obtain ⟨key, w⟩ := cell
    simp only [Memory.wfFrom, Bool.and_eq_true, decide_eq_true_eq] at h
    by_cases hk : key = k
    · simpa [Memory.erase, hk] using wfFrom_mono (ih h.2) (by omega : lo ≤ key + 1)
    · simp only [Memory.erase, hk, if_false, Memory.wfFrom, Bool.and_eq_true, decide_eq_true_eq]
      exact ⟨h.1, ih h.2⟩

theorem wfFrom_insert_erase {m : Memory} {lo k : Nat} {v : Byte} (h : Memory.wfFrom lo m = true) (hk : lo ≤ k)
    (hv : v ≠ Config.unlisted) : Memory.wfFrom lo ((m.erase k).insert k v) = true := by
  induction m generalizing lo with
  | nil => simp [Memory.erase, Memory.insert, Memory.wfFrom, hk, hv]
  | cons cell rest ih =>
    obtain ⟨key, w⟩ := cell
    simp only [Memory.wfFrom, Bool.and_eq_true, decide_eq_true_eq] at h
    by_cases he : key = k
    · simpa [Memory.erase, he] using ih (wfFrom_mono h.2 (by omega)) hk
    · by_cases hlt : k < key
      · simp only [Memory.erase, he, if_false, Memory.insert, hlt, if_true, Memory.wfFrom, Bool.and_eq_true, decide_eq_true_eq]
        exact ⟨⟨hk, by simp [hv]⟩, ⟨by omega, h.1.2⟩, wfFrom_erase h.2 k⟩
      · simp only [Memory.erase, he, if_false, Memory.insert, hlt, Memory.wfFrom, Bool.and_eq_true, decide_eq_true_eq]
        exact ⟨h.1, ih h.2 (by omega)⟩

/-- A write keeps the canonical form. -/
theorem wf_write {m : Memory} (h : m.wf = true) (k : Nat) (v : Byte) : (m.write k v).wf = true := by
  unfold Memory.write
  split
  · exact wfFrom_erase h k
  · rename_i hv; exact wfFrom_insert_erase h (Nat.zero_le k) hv

theorem below_erase {m : Memory} {size : Nat} (h : m.below size = true) (k : Nat) : (m.erase k).below size = true := by
  induction m with
  | nil => rfl
  | cons cell rest ih =>
    obtain ⟨key, w⟩ := cell
    simp only [Memory.below, List.all_cons, Bool.and_eq_true, decide_eq_true_eq] at h
    by_cases hk : key = k
    · simp only [Memory.erase, hk, if_true]; exact ih h.2
    · simp only [Memory.erase, hk, if_false, Memory.below, List.all_cons, Bool.and_eq_true, decide_eq_true_eq]
      exact ⟨h.1, ih h.2⟩

theorem below_insert {m : Memory} {size k : Nat} (h : m.below size = true) (hk : k < size) (v : Byte) :
    (m.insert k v).below size = true := by
  induction m with
  | nil => simp [Memory.insert, Memory.below, hk]
  | cons cell rest ih =>
    obtain ⟨key, w⟩ := cell
    simp only [Memory.below, List.all_cons, Bool.and_eq_true, decide_eq_true_eq] at h ih
    by_cases hlt : k < key <;>
      simp only [Memory.insert, hlt, if_true, if_false, Memory.below, List.all_cons, Bool.and_eq_true, decide_eq_true_eq]
    · exact ⟨hk, h⟩
    · exact ⟨h.1, ih h.2⟩

/-- A write inside an array of a size keeps it of that size. -/
theorem below_write {m : Memory} {size k : Nat} (h : m.below size = true) (hk : k < size) (v : Byte) :
    (m.write k v).below size = true := by
  unfold Memory.write
  split
  · exact below_erase h k
  · exact below_insert (below_erase h k) hk v

/-- A write inside an array keeps it in order. -/
theorem arrayOk_write {m : Memory} {size k : Nat} (h : ArrayOk size m) (hk : k < size) (v : Byte) : ArrayOk size (m.write k v) :=
  ⟨wf_write h.1 k v, below_write h.2 hk v⟩

theorem arrayOk_nil (size : Nat) : ArrayOk size [] := ⟨rfl, rfl⟩

/-! ## Arrays made from bytes -/

theorem wfFrom_ofBytesFrom (k : Nat) (bytes : List Byte) : Memory.wfFrom k (Memory.ofBytesFrom k bytes) = true := by
  induction bytes generalizing k with
  | nil => rfl
  | cons v rest ih =>
    unfold Memory.ofBytesFrom
    split
    · exact wfFrom_mono (ih (k + 1)) (by omega)
    · rename_i hv
      simp only [Memory.wfFrom, Bool.and_eq_true, decide_eq_true_eq]
      exact ⟨⟨Nat.le_refl k, by simp [hv]⟩, ih (k + 1)⟩

theorem below_ofBytesFrom (k : Nat) (bytes : List Byte) : (Memory.ofBytesFrom k bytes).below (k + bytes.length) = true := by
  induction bytes generalizing k with
  | nil => rfl
  | cons v rest ih =>
    have hr := ih (k + 1)
    rw [show k + 1 + rest.length = k + (v :: rest).length by simp; omega] at hr
    unfold Memory.ofBytesFrom
    split
    · exact hr
    · simp only [Memory.below, List.all_cons, Bool.and_eq_true, decide_eq_true_eq] at hr ⊢
      exact ⟨by simp, hr⟩

theorem arrayOk_ofBytes (bytes : List Byte) : ArrayOk bytes.length (Memory.ofBytes bytes) :=
  ⟨wfFrom_ofBytesFrom 0 bytes, by have := below_ofBytesFrom 0 bytes; rwa [Nat.zero_add] at this⟩

theorem read_ofBytesFrom_below {k j : Nat} (h : j < k) (bytes : List Byte) :
    (Memory.ofBytesFrom k bytes).read j = Config.unlisted := by
  induction bytes generalizing k with
  | nil => rfl
  | cons v rest ih =>
    unfold Memory.ofBytesFrom
    split
    · exact ih (by omega)
    · simp [Memory.read, Nat.ne_of_gt h, ih (show j < k + 1 by omega)]

theorem read_ofBytesFrom (k j : Nat) (bytes : List Byte) :
    (Memory.ofBytesFrom k bytes).read (k + j) = bytes.getD j Config.unlisted := by
  induction bytes generalizing k j with
  | nil => simp [Memory.ofBytesFrom, Memory.read]
  | cons v rest ih =>
    unfold Memory.ofBytesFrom
    cases j with
    | zero =>
      split
      · rename_i hv
        simpa [hv] using read_ofBytesFrom_below (Nat.lt_succ_self k) rest
      · simp [Memory.read]
    | succ j =>
      have := ih (k + 1) j
      rw [show k + 1 + j = k + (j + 1) by omega] at this
      split
      · simpa using this
      · simpa [Memory.read] using this

/-- An array made from bytes reads as those bytes. -/
theorem read_ofBytes (bytes : List Byte) (j : Nat) : (Memory.ofBytes bytes).read j = bytes.getD j Config.unlisted := by
  simpa [Memory.ofBytes] using read_ofBytesFrom 0 j bytes

/-! ## The bytes of an array -/

@[simp] theorem length_toBytes (size : Nat) (m : Memory) : (m.toBytes size).length = size := by simp [Memory.toBytes]

/-- The bytes of an array are its reads. -/
@[simp] theorem getElem_toBytes (size : Nat) (m : Memory) (k : Nat) (h : k < (m.toBytes size).length) :
    (m.toBytes size)[k] = m.read k := by
  simp [Memory.toBytes]

end Sys2Proof.Laws
end

