-- ==== Sys2Proof/Laws/Ppu.lean ====
section
/-! SUPPORT. The PPU: the loop ends whatever its fuel, two advances in a row are one, the timing state stays one of R270's, and the
place in the frame moves with time. -/

namespace Sys2Proof.Laws

open Sys2Proof.Machine Sys2Proof.Safety

theorem duration_ge (m : PpuMode) : 80 ≤ m.duration := by cases m <;> decide

/-! ## What a transition keeps -/

@[simp] theorem modeRequest_clock (m : PpuMode) (p : Ppu) : (p.modeRequest m).clock = p.clock := rfl
@[simp] theorem modeRequest_mode (m : PpuMode) (p : Ppu) : (p.modeRequest m).mode = p.mode := rfl
@[simp] theorem modeRequest_ly (m : PpuMode) (p : Ppu) : (p.modeRequest m).ly = p.ly := rfl
@[simp] theorem modeRequest_lyc (m : PpuMode) (p : Ppu) : (p.modeRequest m).lyc = p.lyc := rfl
@[simp] theorem modeRequest_coin (m : PpuMode) (p : Ppu) : (p.modeRequest m).coin = p.coin := rfl
@[simp] theorem modeRequest_lcdc (m : PpuMode) (p : Ppu) : (p.modeRequest m).lcdc = p.lcdc := rfl
@[simp] theorem modeRequest_reqVblank (m : PpuMode) (p : Ppu) : (p.modeRequest m).reqVblank = p.reqVblank := rfl
@[simp] theorem coincidence_clock (p : Ppu) : p.coincidence.clock = p.clock := rfl
@[simp] theorem coincidence_mode (p : Ppu) : p.coincidence.mode = p.mode := rfl
@[simp] theorem coincidence_ly (p : Ppu) : p.coincidence.ly = p.ly := rfl
@[simp] theorem coincidence_lyc (p : Ppu) : p.coincidence.lyc = p.lyc := rfl
@[simp] theorem coincidence_coin (p : Ppu) : p.coincidence.coin = (p.ly == p.lyc.toNat) := rfl
@[simp] theorem coincidence_lcdc (p : Ppu) : p.coincidence.lcdc = p.lcdc := rfl
@[simp] theorem coincidence_reqVblank (p : Ppu) : p.coincidence.reqVblank = p.reqVblank := rfl

/-- The PPU at the start of a line in a mode: the line index compared with LYC, the requests of the comparison and of the mode
raised. -/
def atLine (ly : Nat) (mode : PpuMode) (request : Bool) (p : Ppu) : Ppu :=
  { p with ly := ly, mode := mode, coin := ly == p.lyc.toNat
           reqStat := p.reqStat || (ly == p.lyc.toNat && p.statEn.getLsbD 3) || request }

theorem transition_oamSearch {p : Ppu} (h : p.mode = .oamSearch) : p.transition = { p with mode := .pixelTransfer } := by
  unfold Ppu.transition; rw [h]
theorem transition_pixelTransfer {p : Ppu} (h : p.mode = .pixelTransfer) :
    p.transition = { p with mode := .hBlank, reqStat := p.reqStat || p.statEn.getLsbD 0 } := by
  unfold Ppu.transition; rw [h]; rfl
theorem transition_toVBlank {p : Ppu} (h : p.mode = .hBlank) (hl : p.ly = 143) :
    p.transition = { atLine 144 .vBlank (p.statEn.getLsbD 1) p with reqVblank := true } := by
  unfold Ppu.transition; rw [h]; dsimp only; rw [if_pos (by simp [hl])]; simp only [Ppu.coincidence, hl]; rfl
theorem transition_nextLine {p : Ppu} (h : p.mode = .hBlank) (hl : p.ly ≠ 143) :
    p.transition = atLine (p.ly + 1) .oamSearch (p.statEn.getLsbD 2) p := by
  unfold Ppu.transition; rw [h]; dsimp only; rw [if_neg (by simp [hl])]; rfl
theorem transition_frameEnd {p : Ppu} (h : p.mode = .vBlank) (hl : p.ly = 153) :
    p.transition = atLine 0 .oamSearch (p.statEn.getLsbD 2) p := by
  unfold Ppu.transition; rw [h]; dsimp only; rw [if_pos (by omega)]; rfl
theorem transition_vBlankLine {p : Ppu} (h : p.mode = .vBlank) (hl : p.ly ≠ 153) :
    p.transition = atLine (p.ly + 1) .vBlank false p := by
  unfold Ppu.transition; rw [h]; dsimp only; rw [if_neg (by omega)]; simp [Ppu.coincidence, atLine]

/-- The six transitions, for a proof by cases. -/
theorem transition_cases (p : Ppu) :
    p.mode = .oamSearch ∨ p.mode = .pixelTransfer ∨ (p.mode = .hBlank ∧ p.ly = 143) ∨ (p.mode = .hBlank ∧ p.ly ≠ 143) ∨
      (p.mode = .vBlank ∧ p.ly = 153) ∨ (p.mode = .vBlank ∧ p.ly ≠ 153) := by
  by_cases h1 : p.ly = 143 <;> by_cases h2 : p.ly = 153 <;> cases p.mode <;> simp [h1, h2]

@[simp] theorem transition_clock (p : Ppu) : p.transition.clock = p.clock := by
  unfold Ppu.transition; split <;> (try rfl) <;> (dsimp only; split <;> rfl)
@[simp] theorem transition_lcdc (p : Ppu) : p.transition.lcdc = p.lcdc := by
  unfold Ppu.transition; split <;> (try rfl) <;> (dsimp only; split <;> rfl)
@[simp] theorem transition_lyc (p : Ppu) : p.transition.lyc = p.lyc := by
  unfold Ppu.transition; split <;> (try rfl) <;> (dsimp only; split <;> rfl)

/-! ## The loop and its fuel -/

/-- Any two amounts of fuel above `clock / 80` end the loop in the same state. -/
theorem run_fuel {f g : Nat} {p : Ppu} (hf : p.clock < 80 * (f + 1)) (hg : p.clock < 80 * (g + 1)) : p.run f = p.run g := by
  induction f generalizing g p with
  | zero =>
    cases g with
    | zero => rfl
    | succ g => have := duration_ge p.mode; simp only [Ppu.run]; rw [if_pos (by omega)]
  | succ f ih =>
    cases g with
    | zero => have := duration_ge p.mode; simp only [Ppu.run]; rw [if_pos (by omega)]
    | succ g =>
      simp only [Ppu.run]
      split
      · rfl
      · have := duration_ge p.mode
        apply ih <;> simp only [transition_clock] <;> omega

/-- The loop ends with the clock inside the mode. -/
theorem run_clock {f : Nat} {p : Ppu} (hf : p.clock < 80 * (f + 1)) : (p.run f).clock < (p.run f).mode.duration := by
  induction f generalizing p with
  | zero => have := duration_ge p.mode; simp only [Ppu.run]; omega
  | succ f ih =>
    simp only [Ppu.run]
    split
    · assumption
    · have := duration_ge p.mode
      apply ih
      simp only [transition_clock]
      omega

/-- A property that every transition keeps is kept by the loop. -/
theorem run_keeps {P : Ppu → Prop} (h : ∀ p, P p → p.mode.duration ≤ p.clock →
    P ({ p with clock := p.clock - p.mode.duration } : Ppu).transition) (f : Nat) {p : Ppu} (hp : P p) : P (p.run f) := by
  induction f generalizing p with
  | zero => exact hp
  | succ f ih =>
    simp only [Ppu.run]
    split
    · exact hp
    · exact ih (h p hp (by omega))

/-- The registers that a program alone writes are in `q` what they are in `p`. -/
structure SameRegisters (p q : Ppu) : Prop where
  lcdc : q.lcdc = p.lcdc
  statEn : q.statEn = p.statEn
  lyc : q.lyc = p.lyc
  scroll : q.scy = p.scy ∧ q.scx = p.scx
  palettes : q.bgp = p.bgp ∧ q.obp0 = p.obp0 ∧ q.obp1 = p.obp1
  window : q.wy = p.wy ∧ q.wx = p.wx

theorem sameRegisters_refl (p : Ppu) : SameRegisters p p := ⟨rfl, rfl, rfl, ⟨rfl, rfl⟩, ⟨rfl, rfl, rfl⟩, ⟨rfl, rfl⟩⟩

theorem transition_registers (p : Ppu) : SameRegisters p p.transition := by
  unfold Ppu.transition
  split <;> (try dsimp only) <;> (try split) <;> exact ⟨rfl, rfl, rfl, ⟨rfl, rfl⟩, ⟨rfl, rfl, rfl⟩, ⟨rfl, rfl⟩⟩

/-- Time writes no register of the PPU that a program alone writes. -/
theorem advance_registers (gates : Bool) (n : Nat) (p : Ppu) : SameRegisters p (p.advance gates n) := by
  unfold Ppu.advance
  split
  · exact sameRegisters_refl p
  · refine run_keeps (P := SameRegisters p) (fun q hq _ => ?_) _ ?_
    · have h := transition_registers { q with clock := q.clock - q.mode.duration }
      exact ⟨h.lcdc.trans hq.lcdc, h.statEn.trans hq.statEn, h.lyc.trans hq.lyc,
        ⟨h.scroll.1.trans hq.scroll.1, h.scroll.2.trans hq.scroll.2⟩,
        ⟨h.palettes.1.trans hq.palettes.1, h.palettes.2.1.trans hq.palettes.2.1, h.palettes.2.2.trans hq.palettes.2.2⟩,
        ⟨h.window.1.trans hq.window.1, h.window.2.trans hq.window.2⟩⟩
    · exact ⟨rfl, rfl, rfl, ⟨rfl, rfl⟩, ⟨rfl, rfl, rfl⟩, ⟨rfl, rfl⟩⟩

/-- A PPU that LCDC gates off stands still (60_exceptions.md R271). -/
theorem advance_stopped {gates : Bool} {p : Ppu} (h : p.stopped gates = true) (n : Nat) : p.advance gates n = p := by
  unfold Ppu.advance; rw [if_pos h]

@[simp] theorem run_lcdc (f : Nat) (p : Ppu) : (p.run f).lcdc = p.lcdc := by
  induction f generalizing p with
  | zero => rfl
  | succ f ih => simp only [Ppu.run]; split <;> simp [ih]
@[simp] theorem run_lyc (f : Nat) (p : Ppu) : (p.run f).lyc = p.lyc := by
  induction f generalizing p with
  | zero => rfl
  | succ f ih => simp only [Ppu.run]; split <;> simp [ih]

@[simp] theorem ppu_advance_lcdc (gates : Bool) (n : Nat) (p : Ppu) : (p.advance gates n).lcdc = p.lcdc := by
  unfold Ppu.advance; split <;> simp
@[simp] theorem ppu_advance_lyc (gates : Bool) (n : Nat) (p : Ppu) : (p.advance gates n).lyc = p.lyc := by
  unfold Ppu.advance; split <;> simp
@[simp] theorem stopped_advance (gates g : Bool) (n : Nat) (p : Ppu) : (p.advance g n).stopped gates = p.stopped gates := by
  simp [Ppu.stopped]

/-! ## Two advances are one (60_exceptions.md R241) -/

/-- The PPU with `d` more cycles on its clock. -/
def later (d : Nat) (p : Ppu) : Ppu := { p with clock := p.clock + d }

theorem transition_later (d : Nat) (p : Ppu) : (later d p).transition = later d p.transition := by
  rcases transition_cases p with h | h | ⟨h, hl⟩ | ⟨h, hl⟩ | ⟨h, hl⟩ | ⟨h, hl⟩
  · rw [transition_oamSearch h, transition_oamSearch (p := later d p) h]; rfl
  · rw [transition_pixelTransfer h, transition_pixelTransfer (p := later d p) h]; rfl
  · rw [transition_toVBlank h hl, transition_toVBlank (p := later d p) h hl]; rfl
  · rw [transition_nextLine h hl, transition_nextLine (p := later d p) h hl]; rfl
  · rw [transition_frameEnd h hl, transition_frameEnd (p := later d p) h hl]; rfl
  · rw [transition_vBlankLine h hl, transition_vBlankLine (p := later d p) h hl]; rfl

theorem run_later {f g h : Nat} {d : Nat} {p : Ppu} (hf : p.clock < 80 * (f + 1)) (hg : (p.run f).clock + d < 80 * (g + 1))
    (hh : p.clock + d < 80 * (h + 1)) : (later d (p.run f)).run g = (later d p).run h := by
  induction f generalizing p h with
  | zero => exact run_fuel hg hh
  | succ f ih =>
    by_cases hlt : p.clock < p.mode.duration
    · have e : p.run (f + 1) = p := by simp only [Ppu.run]; rw [if_pos hlt]
      rw [e] at hg ⊢
      exact run_fuel hg hh
    · have hdur := duration_ge p.mode
      have e : p.run (f + 1) = (({ p with clock := p.clock - p.mode.duration } : Ppu).transition).run f := by
        simp only [Ppu.run]; rw [if_neg hlt]
      rw [e] at hg ⊢
      obtain ⟨h', rfl⟩ : ∃ h', h = h' + 1 := ⟨h - 1, by omega⟩
      rw [ih (h := h') (by simp only [transition_clock]; omega) hg (by simp only [transition_clock]; omega)]
      have e2 : (later d p).run (h' + 1) =
          (({ later d p with clock := (later d p).clock - (later d p).mode.duration } : Ppu).transition).run h' := by
        simp only [Ppu.run]; rw [if_neg (by simp only [later]; omega)]
      rw [e2, ← transition_later]
      congr 2
      simp only [later, Ppu.mk.injEq, true_and, and_true]
      omega

/-- Two advances in a row are one. -/
theorem ppu_advance_add (gates : Bool) (m n : Nat) (p : Ppu) : (p.advance gates m).advance gates n = p.advance gates (m + n) := by
  by_cases hs : p.stopped gates = true
  · have e : ∀ k, p.advance gates k = p := fun k => if_pos hs
    rw [e m, e n, e (m + n)]
  · have e : ∀ k (q : Ppu), q.stopped gates = p.stopped gates → q.advance gates k = (later k q).run ((q.clock + k) / 80) := by
      intro k q hq; unfold Ppu.advance; rw [hq, if_neg hs]; rfl
    rw [e n _ (stopped_advance ..), e m p rfl, e (m + n) p rfl]
    have := run_later (f := (p.clock + m) / 80) (g := (((later m p).run ((p.clock + m) / 80)).clock + n) / 80)
      (h := (p.clock + (m + n)) / 80) (d := n) (p := later m p) (by simp only [later]; omega) (by omega) (by simp only [later]; omega)
    rw [this]
    simp only [later, Nat.add_assoc]

/-! ## Requests are only ever raised -/

/-- The PPU with requests added to its own. -/
def withRequests (v s : Bool) (p : Ppu) : Ppu := { p with reqVblank := v || p.reqVblank, reqStat := s || p.reqStat }

theorem transition_withRequests (v s : Bool) (p : Ppu) : (withRequests v s p).transition = withRequests v s p.transition := by
  rcases transition_cases p with h | h | ⟨h, hl⟩ | ⟨h, hl⟩ | ⟨h, hl⟩ | ⟨h, hl⟩
  · rw [transition_oamSearch h, transition_oamSearch (p := withRequests v s p) h]; rfl
  · rw [transition_pixelTransfer h, transition_pixelTransfer (p := withRequests v s p) h]; simp [withRequests, Bool.or_assoc]
  · rw [transition_toVBlank h hl, transition_toVBlank (p := withRequests v s p) h hl]
    simp [withRequests, atLine, Bool.or_assoc]
  · rw [transition_nextLine h hl, transition_nextLine (p := withRequests v s p) h hl]
    simp [withRequests, atLine, Bool.or_assoc]
  · rw [transition_frameEnd h hl, transition_frameEnd (p := withRequests v s p) h hl]
    simp [withRequests, atLine, Bool.or_assoc]
  · rw [transition_vBlankLine h hl, transition_vBlankLine (p := withRequests v s p) h hl]
    simp [withRequests, atLine, Bool.or_assoc]

theorem run_withRequests (v s : Bool) (f : Nat) (p : Ppu) : (withRequests v s p).run f = withRequests v s (p.run f) := by
  induction f generalizing p with
  | zero => rfl
  | succ f ih =>
    simp only [Ppu.run]
    by_cases h : p.clock < p.mode.duration
    · rw [if_pos h, if_pos (show (withRequests v s p).clock < (withRequests v s p).mode.duration from h)]
    · rw [if_neg h, if_neg (show ¬ (withRequests v s p).clock < (withRequests v s p).mode.duration from h), ← ih,
        ← transition_withRequests]
      rfl

theorem advance_withRequests (v s gates : Bool) (n : Nat) (p : Ppu) :
    (withRequests v s p).advance gates n = withRequests v s (p.advance gates n) := by
  by_cases h : p.stopped gates = true
  · have e : p.advance gates n = p := if_pos h
    rw [e]
    exact if_pos h
  · have e : p.advance gates n = ({ p with clock := p.clock + n } : Ppu).run ((p.clock + n) / 80) := if_neg h
    rw [e, ← run_withRequests]
    exact if_neg h

/-! ## The timing state stays one of R270's -/

/-- What of `PpuOk` holds inside the loop, where the clock may still exceed the mode. -/
structure LineOk (p : Ppu) : Prop where
  line : LineFits p.mode p.ly
  coin : p.coin = (p.ly == p.lyc.toNat)

theorem lineOk_transition {p : Ppu} (hp : LineOk p) (c : Nat) : LineOk ({ p with clock := c } : Ppu).transition := by
  obtain ⟨hline, hc⟩ := hp
  rcases transition_cases p with h | h | ⟨h, hl⟩ | ⟨h, hl⟩ | ⟨h, hl⟩ | ⟨h, hl⟩ <;> rw [h] at hline <;> simp only [LineFits] at hline
  · rw [transition_oamSearch (p := { p with clock := c }) h]; exact ⟨hline, hc⟩
  · rw [transition_pixelTransfer (p := { p with clock := c }) h]; exact ⟨hline, hc⟩
  · rw [transition_toVBlank (p := { p with clock := c }) h hl]; exact ⟨by simp [atLine, LineFits], rfl⟩
  · rw [transition_nextLine (p := { p with clock := c }) h hl]; exact ⟨by simp only [atLine, LineFits]; omega, rfl⟩
  · rw [transition_frameEnd (p := { p with clock := c }) h hl]; exact ⟨by simp [atLine, LineFits], rfl⟩
  · rw [transition_vBlankLine (p := { p with clock := c }) h hl]; exact ⟨by simp only [atLine, LineFits]; omega, rfl⟩

/-- Time passing keeps the timing state in order. -/
theorem ppuOk_advance {gates : Bool} {p : Ppu} (h : PpuOk gates p) (n : Nat) : PpuOk gates (p.advance gates n) := by
  by_cases hs : p.stopped gates = true
  · have e : p.advance gates n = p := if_pos hs
    rw [e]; exact h
  · have e : p.advance gates n = ({ p with clock := p.clock + n } : Ppu).run ((p.clock + n) / 80) := if_neg hs
    have hl : LineOk (p.advance gates n) := by
      rw [e]
      exact run_keeps (P := LineOk) (fun q hq _ => lineOk_transition hq _) _ ⟨h.line, h.coin⟩
    refine ⟨?_, hl.line, hl.coin, fun hst => ?_⟩
    · rw [e]; exact run_clock (by dsimp only; omega)
    · rw [stopped_advance] at hst; exact absurd hst hs

/-- The place in the frame after a transition is the same place, a frame earlier at the end of line 153. -/
theorem framePosition_transition {p : Ppu} (hp : LineOk p) (hc : p.mode.duration ≤ p.clock) :
    framePosition ({ p with clock := p.clock - p.mode.duration } : Ppu).transition +
      (if p.mode = .vBlank ∧ p.ly = 153 then 70224 else 0) = framePosition p := by
  have hline := hp.line
  rcases transition_cases p with h | h | ⟨h, hl⟩ | ⟨h, hl⟩ | ⟨h, hl⟩ | ⟨h, hl⟩ <;> rw [h] at hline hc <;>
    simp only [LineFits, PpuMode.duration] at hline hc
  · rw [transition_oamSearch (p := { p with clock := p.clock - p.mode.duration }) h]
    simp only [framePosition, h, PpuMode.duration]; simp; omega
  · rw [transition_pixelTransfer (p := { p with clock := p.clock - p.mode.duration }) h]
    simp only [framePosition, h, PpuMode.duration]; simp; omega
  · rw [transition_toVBlank (p := { p with clock := p.clock - p.mode.duration }) h hl]
    simp only [framePosition, h, PpuMode.duration, atLine]; simp; omega
  · rw [transition_nextLine (p := { p with clock := p.clock - p.mode.duration }) h hl]
    simp only [framePosition, h, PpuMode.duration, atLine]; simp; omega
  · rw [transition_frameEnd (p := { p with clock := p.clock - p.mode.duration }) h hl]
    simp only [framePosition, h, PpuMode.duration, atLine]; simp [hl]; omega
  · rw [transition_vBlankLine (p := { p with clock := p.clock - p.mode.duration }) h hl]
    simp only [framePosition, h, PpuMode.duration, atLine]; simp [hl]; omega

end Sys2Proof.Laws
end

