-- ==== Sys2Proof/Laws/Bus.lean ====
section
/-! SUPPORT. The bus: where an address is routed, what a write leaves, and that every write keeps the arrays and the PPU's timing
state in order. -/

namespace Sys2Proof.Laws

open Sys2Proof.Machine Sys2Proof.Safety

/-! ## Routing (20_memory.md R60) -/

theorem route_romFixed {a : Word} (h : a.toNat < 0x4000) : route a = .romFixed a.toNat := by
  unfold route; simp only [if_pos h]
theorem route_romSwitched {a : Word} (h : 0x4000 ≤ a.toNat) (h' : a.toNat < 0x8000) : route a = .romSwitched (a.toNat - 0x4000) := by
  unfold route; simp (disch := omega) only [if_pos, if_neg]
theorem route_vram {a : Word} (h : 0x8000 ≤ a.toNat) (h' : a.toNat < 0xA000) : route a = .vram (a.toNat - 0x8000) := by
  unfold route; simp (disch := omega) only [if_pos, if_neg]
theorem route_eram {a : Word} (h : 0xA000 ≤ a.toNat) (h' : a.toNat < 0xC000) : route a = .eram (a.toNat - 0xA000) := by
  unfold route; simp (disch := omega) only [if_pos, if_neg]
theorem route_wram {a : Word} (h : 0xC000 ≤ a.toNat) (h' : a.toNat < 0xE000) : route a = .wram (a.toNat - 0xC000) := by
  unfold route; simp (disch := omega) only [if_pos, if_neg]
theorem route_echo {a : Word} (h : 0xE000 ≤ a.toNat) (h' : a.toNat < 0xFE00) : route a = .wram (a.toNat - 0xE000) := by
  unfold route; simp (disch := omega) only [if_pos, if_neg]
theorem route_oam {a : Word} (h : 0xFE00 ≤ a.toNat) (h' : a.toNat < 0xFEA0) : route a = .oam (a.toNat - 0xFE00) := by
  unfold route; simp (disch := omega) only [if_pos, if_neg]
theorem route_gap {a : Word} (h : 0xFEA0 ≤ a.toNat) (h' : a.toNat < 0xFF00) : route a = .unmapped := by
  unfold route; simp (disch := omega) only [if_pos, if_neg]
theorem route_io {a : Word} (h : 0xFF00 ≤ a.toNat) (h' : a.toNat < 0xFF80) : route a = routeIo (a.toNat - 0xFF00) := by
  unfold route; simp (disch := omega) only [if_pos, if_neg]
theorem route_hram {a : Word} (h : 0xFF80 ≤ a.toNat) (h' : a.toNat < 0xFFFF) : route a = .hram (a.toNat - 0xFF80) := by
  unfold route; simp (disch := omega) only [if_pos, if_neg]
theorem route_last {a : Word} (h : 0xFFFF ≤ a.toNat) : route a = .intEnable := by
  unfold route; simp (disch := omega) only [if_neg]

/-- The address a target stands for; work RAM has two. -/
def TargetAt (t : Target) (a : Nat) : Prop :=
  match t with
  | .romFixed off => a = off ∧ off < 0x4000
  | .romSwitched off => a = 0x4000 + off ∧ off < 0x4000
  | .vram off => a = 0x8000 + off ∧ off < 0x2000
  | .eram off => a = 0xA000 + off ∧ off < 0x2000
  | .wram off => (a = 0xC000 + off ∧ off < 0x2000) ∨ (a = 0xE000 + off ∧ off < 0x1E00)
  | .oam off => a = 0xFE00 + off ∧ off < 160
  | .hram off => a = 0xFF80 + off ∧ off < 127
  | .p1 => a = 0xFF00
  | .div => a = 0xFF04
  | .tima => a = 0xFF05
  | .tma => a = 0xFF06
  | .tac => a = 0xFF07
  | .intFlag => a = 0xFF0F
  | .lcdc => a = 0xFF40
  | .stat => a = 0xFF41
  | .scy => a = 0xFF42
  | .scx => a = 0xFF43
  | .ly => a = 0xFF44
  | .lyc => a = 0xFF45
  | .dma => a = 0xFF46
  | .bgp => a = 0xFF47
  | .obp0 => a = 0xFF48
  | .obp1 => a = 0xFF49
  | .wy => a = 0xFF4A
  | .wx => a = 0xFF4B
  | .bootOff => a = 0xFF50
  | .intEnable => a = 0xFFFF
  | .unmapped => 0xFEA0 ≤ a ∧ a ≤ 0xFEFF ∨ 0xFF01 ≤ a ∧ a ≤ 0xFF03 ∨ 0xFF08 ≤ a ∧ a ≤ 0xFF0E ∨ 0xFF10 ≤ a ∧ a ≤ 0xFF3F ∨
      0xFF4C ≤ a ∧ a ≤ 0xFF4F ∨ 0xFF51 ≤ a ∧ a ≤ 0xFF7F

theorem targetAt_routeIo (n k : Nat) (hk : n = k + 0xFF00) (h : k < 0x80) : TargetAt (routeIo k) n := by
  unfold routeIo
  split
  case h_20 =>
    simp only [imp_false] at *
    simp only [TargetAt]
    omega
  all_goals exact hk

/-- Every address stands where its target says. -/
theorem targetAt_route (a : Word) : TargetAt (route a) a.toNat := by
  have ha := a.isLt
  by_cases h1 : a.toNat < 0x4000
  · rw [route_romFixed h1]; exact ⟨rfl, h1⟩
  by_cases h2 : a.toNat < 0x8000
  · rw [route_romSwitched (by omega) h2]; simp only [TargetAt]; omega
  by_cases h3 : a.toNat < 0xA000
  · rw [route_vram (by omega) h3]; simp only [TargetAt]; omega
  by_cases h4 : a.toNat < 0xC000
  · rw [route_eram (by omega) h4]; simp only [TargetAt]; omega
  by_cases h5 : a.toNat < 0xE000
  · rw [route_wram (by omega) h5]; simp only [TargetAt]; omega
  by_cases h6 : a.toNat < 0xFE00
  · rw [route_echo (by omega) h6]; simp only [TargetAt]; omega
  by_cases h7 : a.toNat < 0xFEA0
  · rw [route_oam (by omega) h7]; simp only [TargetAt]; omega
  by_cases h8 : a.toNat < 0xFF00
  · rw [route_gap (by omega) h8]; simp only [TargetAt]; omega
  by_cases h9 : a.toNat < 0xFF80
  · rw [route_io (by omega) h9]
    have e1 : a.toNat = (a.toNat - 0xFF00) + 0xFF00 := by omega
    have e2 : a.toNat - 0xFF00 < 0x80 := by omega
    generalize a.toNat - 0xFF00 = k at e1 e2 ⊢
    exact targetAt_routeIo _ _ e1 e2
  by_cases h10 : a.toNat < 0xFFFF
  · rw [route_hram (by omega) h10]; simp only [TargetAt]; omega
  · rw [route_last (by omega)]; simp only [TargetAt]; omega

theorem targetAt_of_route {a : Word} {t : Target} (h : route a = t) : TargetAt t a.toNat := h ▸ targetAt_route a

/-- No address has two targets. -/
theorem targetAt_unique {t t' : Target} {a : Nat} (h : TargetAt t a) (h' : TargetAt t' a) : t = t' := by
  cases t <;> cases t' <;>
    first
      | rfl
      | (simp only [TargetAt] at h h'; first | (exfalso; omega) | (congr 1; omega))

/-- The target of an address, from where it stands. -/
theorem route_eq {a : Word} {t : Target} (h : TargetAt t a.toNat) : route a = t := targetAt_unique (targetAt_route a) h

/-! ## The bus with another OAM -/

/-- OAM is read only at OAM's own addresses. -/
theorem read_withOam {a : Word} (h : ∀ off, route a ≠ .oam off) (m : Memory) (b : Bus) :
    ({ b with oam := m } : Bus).read a = b.read a := by
  unfold Bus.read
  cases hr : route a <;> first | rfl | exact absurd hr (h _)

/-- The copy loop changes OAM alone. -/
theorem dmaLoop_ok {page : Byte} {n : Nat} {b b' : Bus} (h : Bus.dmaLoop page n b = .ok b') : b' = { b with oam := b'.oam } := by
  induction n generalizing b with
  | zero => simp only [Bus.dmaLoop, Except.ok.injEq] at h; subst h; rfl
  | succ n ih =>
    simp only [Bus.dmaLoop] at h
    split at h
    · cases h
    · rw [ih h]
      unfold Bus.storeOam
      split <;> rfl

theorem dma_ok {page : Byte} {b b' : Bus} (h : b.dma page = .ok b') : b' = { b with oam := b'.oam } := by
  unfold Bus.dma at h
  split at h
  · cases h
  · exact dmaLoop_ok h

/-- The copy loop writes the 160 bytes of OAM alone. -/
theorem dmaLoop_above {page : Byte} {n : Nat} {b b' : Bus} (h : Bus.dmaLoop page n b = .ok b') {k : Nat} (hk : 160 ≤ k) :
    b'.oam.read k = b.oam.read k := by
  induction n generalizing b with
  | zero => simp only [Bus.dmaLoop, Except.ok.injEq] at h; rw [h]
  | succ n ih =>
    simp only [Bus.dmaLoop] at h
    split at h
    · cases h
    · rw [ih h]
      unfold Bus.storeOam
      split
      · exact read_write_other _ (by omega) _
      · rfl

theorem arrayOk_storeOam {off : Nat} {v : Byte} {b : Bus} (h : ArrayOk 160 b.oam) (ho : off < 160) :
    ArrayOk 160 (b.storeOam off v).oam := by
  unfold Bus.storeOam; split
  · exact arrayOk_write h ho v
  · exact h

theorem arrayOk_dmaLoop {page : Byte} {n : Nat} {b b' : Bus} (hb : ArrayOk 160 b.oam) (hn : n ≤ 160)
    (h : Bus.dmaLoop page n b = .ok b') : ArrayOk 160 b'.oam := by
  induction n generalizing b with
  | zero => simp only [Bus.dmaLoop, Except.ok.injEq] at h; subst h; exact hb
  | succ n ih =>
    simp only [Bus.dmaLoop] at h
    split at h
    · cases h
    · exact ih (arrayOk_storeOam hb (by omega)) (by omega) h

/-! ## The boot latch (20_memory.md R61) -/

/-- A read at or above 0x0100 does not see the latch. -/
theorem read_withBooting {a : Word} (h : 0x100 ≤ a.toNat) (latch : Bool) (b : Bus) :
    ({ b with booting := latch } : Bus).read a = b.read a := by
  unfold Bus.read
  cases hr : route a with
  | romFixed off =>
    have : a.toNat = off ∧ off < 0x4000 := by simpa [TargetAt] using targetAt_of_route hr
    have : ¬ off < 0x100 := by omega
    simp [this]
  | _ => rfl

/-- The copy loop reads at and above its page, so with its page above 0x00 it does not see the latch. -/
theorem dmaLoop_withBooting {page : Byte} (h : 1 ≤ page.toNat) (n : Nat) (latch : Bool) (b : Bus) :
    Bus.dmaLoop page n { b with booting := latch } = (Bus.dmaLoop page n b).map fun b' => { b' with booting := latch } := by
  induction n generalizing b with
  | zero => rfl
  | succ n ih =>
    have hp (v : Byte) : 0x100 ≤ (wordOf page v).toNat := by
      simp only [wordOf, BitVec.toNat_append, Nat.shiftLeft_eq]
      have := Nat.left_le_or (n := page.toNat * 2 ^ 8) (m := v.toNat)
      omega
    simp only [Bus.dmaLoop]
    rw [read_withBooting (hp _)]
    cases b.read (wordOf page (BitVec.ofNat 8 (159 - n))) with
    | error kind => rfl
    | ok v =>
      have e : ({ b with booting := latch } : Bus).storeOam (159 - n) v = { b.storeOam (159 - n) v with booting := latch } := by
        unfold Bus.storeOam; dsimp only; split <;> rfl
      dsimp only
      rw [e]
      exact ih _

/-- A write elsewhere than at 0xFF50 does not see the latch and leaves it. -/
theorem write_withBooting {a : Word} (h : a ≠ 0xFF50#16) (v : Byte) (latch : Bool) (b : Bus) :
    ({ b with booting := latch } : Bus).write a v = (b.write a v).map fun b' => { b' with booting := latch } := by
  unfold Bus.write
  cases hr : route a with
  | bootOff =>
    have : a.toNat = 0xFF50 := by simpa [TargetAt] using targetAt_of_route hr
    exact absurd (BitVec.eq_of_toNat_eq this) h
  | vram off => simp only [Except.map]; split <;> rfl
  | eram off => simp only [Bus.writeEram]; split <;> (try split) <;> rfl
  | oam off => simp only [Bus.storeOam, Except.map]; split <;> rfl
  | dma =>
    simp only [Bus.dma]
    split
    · rfl
    · exact dmaLoop_withBooting (by omega) _ _ _
  | unmapped => simp only [Bus.writeUnmapped]; split <;> rfl
  | _ => rfl

/-! ## What no write changes -/

/-- A write leaves the launch parameters, the cartridge's image and sizes, the boot image and the keys; it never sets the boot latch;
the timer's and the input's requests stay. -/
structure WriteFrame (b b' : Bus) : Prop where
  params : b'.params = b.params
  boot : b'.boot = b.boot
  rom : b'.cart.rom = b.cart.rom
  romCode : b'.cart.romCode = b.cart.romCode
  ramSize : b'.cart.ramSize = b.cart.ramSize
  keys : b'.input.keys = b.input.keys
  inputReq : b'.input.req = b.input.req
  timerReq : b'.timer.req = b.timer.req
  vblank : b'.ppu.reqVblank = b.ppu.reqVblank
  booting : b'.booting = true → b.booting = true

theorem writeFrame_refl (b : Bus) : WriteFrame b b := ⟨rfl, rfl, rfl, rfl, rfl, rfl, rfl, rfl, rfl, id⟩

theorem WriteFrame.trans {b b' b'' : Bus} (h : WriteFrame b b') (h' : WriteFrame b' b'') : WriteFrame b b'' :=
  ⟨h'.params.trans h.params, h'.boot.trans h.boot, h'.rom.trans h.rom, h'.romCode.trans h.romCode, h'.ramSize.trans h.ramSize,
    h'.keys.trans h.keys, h'.inputReq.trans h.inputReq, h'.timerReq.trans h.timerReq, h'.vblank.trans h.vblank,
    fun x => h.booting (h'.booting x)⟩

theorem writeLatch_rom (a : Nat) (v : Byte) (c : Cart) : (c.writeLatch a v).rom = c.rom := by
  unfold Cart.writeLatch; split <;> (try split) <;> (try split) <;> rfl
theorem writeLatch_romCode (a : Nat) (v : Byte) (c : Cart) : (c.writeLatch a v).romCode = c.romCode := by
  unfold Cart.writeLatch; split <;> (try split) <;> (try split) <;> rfl
theorem writeLatch_ramSize (a : Nat) (v : Byte) (c : Cart) : (c.writeLatch a v).ramSize = c.ramSize := by
  unfold Cart.writeLatch; split <;> (try split) <;> (try split) <;> rfl
theorem writeLatch_eram (a : Nat) (v : Byte) (c : Cart) : (c.writeLatch a v).eram = c.eram := by
  unfold Cart.writeLatch; split <;> (try split) <;> (try split) <;> rfl

theorem writeLcdc_reqVblank (g : Bool) (v : Byte) (p : Ppu) : (p.writeLcdc g v).reqVblank = p.reqVblank := by
  unfold Ppu.writeLcdc; dsimp only; split <;> (try split) <;> rfl

theorem write_frame {a : Word} {v : Byte} {b b' : Bus} (h : b.write a v = .ok b') : WriteFrame b b' := by
  unfold Bus.write at h
  split at h
  all_goals try (simp only [Except.ok.injEq] at h; subst h)
  all_goals first
    | exact ⟨rfl, rfl, rfl, rfl, rfl, rfl, rfl, rfl, rfl, id⟩
    | exact ⟨rfl, rfl, writeLatch_rom _ _ _, writeLatch_romCode _ _ _, writeLatch_ramSize _ _ _, rfl, rfl, rfl, rfl, id⟩
    | exact ⟨rfl, rfl, rfl, rfl, rfl, rfl, rfl, rfl, writeLcdc_reqVblank _ _ _, id⟩
    | (split <;> exact ⟨rfl, rfl, rfl, rfl, rfl, rfl, rfl, rfl, rfl, id⟩)
    | (unfold Bus.storeOam; split <;> exact ⟨rfl, rfl, rfl, rfl, rfl, rfl, rfl, rfl, rfl, id⟩)
    | exact ⟨rfl, rfl, rfl, rfl, rfl, rfl, rfl, rfl, rfl, fun x => by cases x⟩
    | (rw [dma_ok h]; exact ⟨rfl, rfl, rfl, rfl, rfl, rfl, rfl, rfl, rfl, id⟩)
    | (unfold Bus.writeEram at h; split at h
       · simp only [Except.ok.injEq] at h; subst h; exact writeFrame_refl _
       · split at h
         · cases h
         · simp only [Except.ok.injEq] at h; subst h; exact ⟨rfl, rfl, rfl, rfl, rfl, rfl, rfl, rfl, rfl, id⟩)
    | (unfold Bus.writeUnmapped at h; split at h
       · cases h
       · simp only [Except.ok.injEq] at h; subst h; exact writeFrame_refl _)

/-! ## What a write leaves in order -/

theorem ramOffset_lt {c : Cart} (h : c.ramSize.bytes ≠ 0) (off : Nat) : c.ramOffset off < c.ramSize.bytes :=
  Nat.mod_lt _ (Nat.pos_of_ne_zero h)

/-- A write keeps every array in order. -/
theorem arraysOk_write {a : Word} {v : Byte} {b b' : Bus} (hb : ArraysOk b) (h : b.write a v = .ok b') : ArraysOk b' := by
  obtain ⟨h1, h2, h3, h4, h5, h6, h7⟩ := hb
  unfold Bus.write at h
  cases hr : route a <;> rw [hr] at h <;> dsimp only at h <;> have ht := targetAt_of_route hr
  all_goals try (simp only [Except.ok.injEq] at h; subst h)
  case romFixed off =>
    refine ⟨h1, ?_, ?_, h4, h5, h6, h7⟩
    · simpa [Cart.nRom, writeLatch_rom, writeLatch_romCode] using h2
    · simpa [writeLatch_eram, writeLatch_ramSize] using h3
  case romSwitched off =>
    refine ⟨h1, ?_, ?_, h4, h5, h6, h7⟩
    · simpa [Cart.nRom, writeLatch_rom, writeLatch_romCode] using h2
    · simpa [writeLatch_eram, writeLatch_ramSize] using h3
  case vram off =>
    split
    · exact ⟨h1, h2, h3, arrayOk_write h4 ht.2 v, h5, h6, h7⟩
    · exact ⟨h1, h2, h3, h4, h5, h6, h7⟩
  case eram off =>
    unfold Bus.writeEram at h
    split at h
    · simp only [Except.ok.injEq] at h; subst h; exact ⟨h1, h2, h3, h4, h5, h6, h7⟩
    · split at h
      · cases h
      · rename_i hne
        simp only [Except.ok.injEq] at h; subst h
        exact ⟨h1, h2, arrayOk_write h3 (ramOffset_lt hne off) v, h4, h5, h6, h7⟩
  case wram off =>
    refine ⟨h1, h2, h3, h4, h5, arrayOk_write h6 ?_ v, h7⟩
    simp only [TargetAt] at ht; omega
  case oam off =>
    unfold Bus.storeOam
    split
    · exact ⟨h1, h2, h3, h4, arrayOk_write h5 ht.2 v, h6, h7⟩
    · exact ⟨h1, h2, h3, h4, h5, h6, h7⟩
  case hram off => exact ⟨h1, h2, h3, h4, h5, h6, arrayOk_write h7 ht.2 v⟩
  case dma =>
    have ho : ArrayOk 160 b'.oam := by
      unfold Bus.dma at h
      split at h
      · cases h
      · exact arrayOk_dmaLoop h5 (by omega) h
    rw [dma_ok h]
    exact ⟨h1, h2, h3, h4, ho, h6, h7⟩
  case unmapped =>
    unfold Bus.writeUnmapped at h
    split at h
    · cases h
    · simp only [Except.ok.injEq] at h; subst h; exact ⟨h1, h2, h3, h4, h5, h6, h7⟩
  all_goals exact ⟨h1, h2, h3, h4, h5, h6, h7⟩

theorem ppuOk_writeLcdc {g : Bool} {p : Ppu} (h : PpuOk g p) (v : Byte) : PpuOk g (p.writeLcdc g v) := by
  unfold Ppu.writeLcdc
  dsimp only
  split
  · exact ⟨by simp [PpuMode.duration], by simp [LineFits], by simp, fun _ => by simp⟩
  · split
    · rename_i h2
      refine ⟨by simp [PpuMode.duration], by simp [LineFits], by simp, fun hs => ?_⟩
      simp only [Bool.and_eq_true, Bool.not_eq_true'] at h2
      simp only [Ppu.stopped, coincidence_lcdc, h2.2, Bool.not_true, Bool.and_false] at hs
      exact absurd hs (by decide)
    · rename_i h1 h2
      refine ⟨h.clock, h.line, h.coin, fun hs => h.off ?_⟩
      simp only [Ppu.stopped, Bool.and_eq_true, Bool.not_eq_true'] at *
      refine ⟨hs.1, ?_⟩
      simp only [hs.1, hs.2] at h1
      simpa using h1

/-- A write keeps the PPU's timing state in order. -/
theorem ppuOk_write {a : Word} {v : Byte} {b b' : Bus} (hb : PpuOk b.params.lcdGates b.ppu) (h : b.write a v = .ok b') :
    PpuOk b.params.lcdGates b'.ppu := by
  unfold Bus.write at h
  cases hr : route a <;> rw [hr] at h <;> dsimp only at h
  all_goals try (simp only [Except.ok.injEq] at h; subst h)
  all_goals first
    | exact hb
    | exact ⟨hb.clock, hb.line, hb.coin, hb.off⟩
    | exact ⟨hb.clock, hb.line, rfl, hb.off⟩
    | exact ppuOk_writeLcdc hb v
    | (split <;> exact hb)
    | (unfold Bus.storeOam; split <;> exact hb)
    | (rw [dma_ok h]; exact hb)
    | (unfold Bus.writeEram at h; split at h
       · simp only [Except.ok.injEq] at h; subst h; exact hb
       · split at h
         · cases h
         · simp only [Except.ok.injEq] at h; subst h; exact hb)
    | (unfold Bus.writeUnmapped at h; split at h
       · cases h
       · simp only [Except.ok.injEq] at h; subst h; exact hb)

/-! ## Runs of writes -/

theorem writeAll_frame {stores : List (Word × Byte)} {b b' : Bus} (h : writeAll stores b = .ok b') : WriteFrame b b' := by
  induction stores generalizing b with
  | nil => simp only [writeAll, Except.ok.injEq] at h; subst h; exact writeFrame_refl _
  | cons p rest ih =>
    obtain ⟨a, v⟩ := p
    simp only [writeAll] at h
    split at h
    · cases h
    · rename_i hw; exact (write_frame hw).trans (ih h)

theorem arraysOk_writeAll {stores : List (Word × Byte)} {b b' : Bus} (hb : ArraysOk b) (h : writeAll stores b = .ok b') :
    ArraysOk b' := by
  induction stores generalizing b with
  | nil => simp only [writeAll, Except.ok.injEq] at h; subst h; exact hb
  | cons p rest ih =>
    obtain ⟨a, v⟩ := p
    simp only [writeAll] at h
    split at h
    · cases h
    · rename_i hw; exact ih (arraysOk_write hb hw) h

theorem ppuOk_writeAll {g : Bool} {stores : List (Word × Byte)} {b b' : Bus} (hg : b.params.lcdGates = g) (hb : PpuOk g b.ppu)
    (h : writeAll stores b = .ok b') : PpuOk g b'.ppu := by
  induction stores generalizing b with
  | nil => simp only [writeAll, Except.ok.injEq] at h; subst h; exact hb
  | cons p rest ih =>
    obtain ⟨a, v⟩ := p
    simp only [writeAll] at h
    split at h
    · cases h
    · rename_i hw
      subst hg
      exact ih (by rw [(write_frame hw).params]) (ppuOk_write hb hw) h

/-! ## The update fan-out -/

@[simp] theorem update_params (n : Nat) (b : Bus) : (b.update n).params = b.params := rfl
@[simp] theorem update_cart (n : Nat) (b : Bus) : (b.update n).cart = b.cart := rfl
@[simp] theorem update_booting (n : Nat) (b : Bus) : (b.update n).booting = b.booting := rfl
@[simp] theorem update_intEnable (n : Nat) (b : Bus) : (b.update n).intEnable = b.intEnable := rfl

theorem arraysOk_update {b : Bus} (h : ArraysOk b) (n : Nat) : ArraysOk (b.update n) := ⟨h.1, h.2, h.3, h.4, h.5, h.6, h.7⟩
theorem requestsTaken_update (b : Bus) (n : Nat) : RequestsTaken (b.update n) := ⟨rfl, rfl, rfl⟩
theorem ppuOk_update {b : Bus} (h : PpuOk b.params.lcdGates b.ppu) (n : Nat) : PpuOk b.params.lcdGates (b.update n).ppu := by
  have := ppuOk_advance h n
  exact ⟨this.clock, this.line, this.coin, this.off⟩

end Sys2Proof.Laws
end

