-- ==== Sys2Proof/Laws/Rows.lean ====
section
/-! SUPPORT. The 512 constructors as 73 rows: 23 families indexed by their operand fields and 50 single rows. A proof about every
instruction goes by `cases row i`; the meaning of a family is its shared shape. -/

namespace Sys2Proof.Laws

open Sys2Proof.Machine

/-- An instruction as a row: a family with its operands, or a single row. -/
inductive Row : Instr → Prop where
  | ldReg (dst src : Reg8) : Row (Instr.ldReg dst src)
  | ldImm (dst : Reg8) (n : Byte) : Row (Instr.ldImm dst n)
  | ldRegAtHl (dst : Reg8) : Row (Instr.ldRegAtHl dst)
  | ldAtHlReg (src : Reg8) : Row (Instr.ldAtHlReg src)
  | alu (op : AluOp) (src : Operand8) : Row (Instr.alu op src)
  | aluImm (op : AluOp) (n : Byte) : Row (Instr.aluImm op n)
  | inc8 (o : Operand8) : Row (Instr.inc8 o)
  | dec8 (o : Operand8) : Row (Instr.dec8 o)
  | ldPair (rr : Pair) (nn : Word) : Row (Instr.ldPair rr nn)
  | incPair (rr : Pair) : Row (Instr.incPair rr)
  | decPair (rr : Pair) : Row (Instr.decPair rr)
  | addHl (rr : Pair) : Row (Instr.addHl rr)
  | push (rr : StackPair) : Row (Instr.push rr)
  | pop (rr : StackPair) : Row (Instr.pop rr)
  | jpCond (cc : Cond) (nn : Word) : Row (Instr.jpCond cc nn)
  | jrCond (cc : Cond) (e : Byte) : Row (Instr.jrCond cc e)
  | callCond (cc : Cond) (nn : Word) : Row (Instr.callCond cc nn)
  | retCond (cc : Cond) : Row (Instr.retCond cc)
  | rst (y : Fin 8) : Row (Instr.rst y)
  | cbShift (op : ShiftOp) (o : Operand8) : Row (Instr.cbShift op o)
  | cbBit (k : Fin 8) (o : Operand8) : Row (Instr.cbBit k o)
  | cbRes (k : Fin 8) (o : Operand8) : Row (Instr.cbRes k o)
  | cbSet (k : Fin 8) (o : Operand8) : Row (Instr.cbSet k o)
  | nop : Row .nop
  | ldAtBcA : Row .ldAtBcA
  | rlca : Row .rlca
  | ldAtNnSp (nn : Word) : Row (.ldAtNnSp nn)
  | ldAAtBc : Row .ldAAtBc
  | rrca : Row .rrca
  | stop : Row .stop
  | ldAtDeA : Row .ldAtDeA
  | rla : Row .rla
  | jrDisp (e : Byte) : Row (.jrDisp e)
  | ldAAtDe : Row .ldAAtDe
  | rra : Row .rra
  | ldAtHlIncA : Row .ldAtHlIncA
  | daa : Row .daa
  | ldAAtHlInc : Row .ldAAtHlInc
  | cplA : Row .cplA
  | ldAtHlDecA : Row .ldAtHlDecA
  | ldAtHlN (n : Byte) : Row (.ldAtHlN n)
  | scf : Row .scf
  | ldAAtHlDec : Row .ldAAtHlDec
  | ccf : Row .ccf
  | halt : Row .halt
  | jpNn (nn : Word) : Row (.jpNn nn)
  | ret : Row .ret
  | prefixCb (op2 : Byte) : Row (.prefixCb op2)
  | callNn (nn : Word) : Row (.callNn nn)
  | illegalD3 : Row .illegalD3
  | reti : Row .reti
  | illegalDB : Row .illegalDB
  | illegalDD : Row .illegalDD
  | ldhAtNA (n : Byte) : Row (.ldhAtNA n)
  | ldAtCA : Row .ldAtCA
  | illegalE3 : Row .illegalE3
  | illegalE4 : Row .illegalE4
  | addSpDisp (e : Byte) : Row (.addSpDisp e)
  | jpHl : Row .jpHl
  | ldAtNnA (nn : Word) : Row (.ldAtNnA nn)
  | illegalEB : Row .illegalEB
  | illegalEC : Row .illegalEC
  | illegalED : Row .illegalED
  | ldhAAtN (n : Byte) : Row (.ldhAAtN n)
  | ldAAtC : Row .ldAAtC
  | di : Row .di
  | illegalF4 : Row .illegalF4
  | ldHlSpDisp (e : Byte) : Row (.ldHlSpDisp e)
  | ldSpHl : Row .ldSpHl
  | ldAAtNn (nn : Word) : Row (.ldAAtNn nn)
  | ei : Row .ei
  | illegalFC : Row .illegalFC
  | illegalFD : Row .illegalFD

/-- Every instruction is a row. -/
theorem row (i : Instr) : Row i :=
  match i with
  | .nop => .nop
  | .ldBcNn nn => .ldPair .bc nn
  | .ldAtBcA => .ldAtBcA
  | .incBc => .incPair .bc
  | .incB => .inc8 (.reg .b)
  | .decB => .dec8 (.reg .b)
  | .ldBN n => .ldImm .b n
  | .rlca => .rlca
  | .ldAtNnSp nn => .ldAtNnSp nn
  | .addHlBc => .addHl .bc
  | .ldAAtBc => .ldAAtBc
  | .decBc => .decPair .bc
  | .incC => .inc8 (.reg .c)
  | .decC => .dec8 (.reg .c)
  | .ldCN n => .ldImm .c n
  | .rrca => .rrca
  | .stop => .stop
  | .ldDeNn nn => .ldPair .de nn
  | .ldAtDeA => .ldAtDeA
  | .incDe => .incPair .de
  | .incD => .inc8 (.reg .d)
  | .decD => .dec8 (.reg .d)
  | .ldDN n => .ldImm .d n
  | .rla => .rla
  | .jrDisp e => .jrDisp e
  | .addHlDe => .addHl .de
  | .ldAAtDe => .ldAAtDe
  | .decDe => .decPair .de
  | .incE => .inc8 (.reg .e)
  | .decE => .dec8 (.reg .e)
  | .ldEN n => .ldImm .e n
  | .rra => .rra
  | .jrNzDisp e => .jrCond .nz e
  | .ldHlNn nn => .ldPair .hl nn
  | .ldAtHlIncA => .ldAtHlIncA
  | .incHl => .incPair .hl
  | .incH => .inc8 (.reg .h)
  | .decH => .dec8 (.reg .h)
  | .ldHN n => .ldImm .h n
  | .daa => .daa
  | .jrZDisp e => .jrCond .z e
  | .addHlHl => .addHl .hl
  | .ldAAtHlInc => .ldAAtHlInc
  | .decHl => .decPair .hl
  | .incL => .inc8 (.reg .l)
  | .decL => .dec8 (.reg .l)
  | .ldLN n => .ldImm .l n
  | .cplA => .cplA
  | .jrNcDisp e => .jrCond .nc e
  | .ldSpNn nn => .ldPair .sp nn
  | .ldAtHlDecA => .ldAtHlDecA
  | .incSp => .incPair .sp
  | .incAtHl => .inc8 .atHl
  | .decAtHl => .dec8 .atHl
  | .ldAtHlN n => .ldAtHlN n
  | .scf => .scf
  | .jrCyDisp e => .jrCond .c e
  | .addHlSp => .addHl .sp
  | .ldAAtHlDec => .ldAAtHlDec
  | .decSp => .decPair .sp
  | .incA => .inc8 (.reg .a)
  | .decA => .dec8 (.reg .a)
  | .ldAN n => .ldImm .a n
  | .ccf => .ccf
  | .ldBB => .ldReg .b .b
  | .ldBC => .ldReg .b .c
  | .ldBD => .ldReg .b .d
  | .ldBE => .ldReg .b .e
  | .ldBH => .ldReg .b .h
  | .ldBL => .ldReg .b .l
  | .ldBAtHl => .ldRegAtHl .b
  | .ldBA => .ldReg .b .a
  | .ldCB => .ldReg .c .b
  | .ldCC => .ldReg .c .c
  | .ldCD => .ldReg .c .d
  | .ldCE => .ldReg .c .e
  | .ldCH => .ldReg .c .h
  | .ldCL => .ldReg .c .l
  | .ldCAtHl => .ldRegAtHl .c
  | .ldCA => .ldReg .c .a
  | .ldDB => .ldReg .d .b
  | .ldDC => .ldReg .d .c
  | .ldDD => .ldReg .d .d
  | .ldDE => .ldReg .d .e
  | .ldDH => .ldReg .d .h
  | .ldDL => .ldReg .d .l
  | .ldDAtHl => .ldRegAtHl .d
  | .ldDA => .ldReg .d .a
  | .ldEB => .ldReg .e .b
  | .ldEC => .ldReg .e .c
  | .ldED => .ldReg .e .d
  | .ldEE => .ldReg .e .e
  | .ldEH => .ldReg .e .h
  | .ldEL => .ldReg .e .l
  | .ldEAtHl => .ldRegAtHl .e
  | .ldEA => .ldReg .e .a
  | .ldHB => .ldReg .h .b
  | .ldHC => .ldReg .h .c
  | .ldHD => .ldReg .h .d
  | .ldHE => .ldReg .h .e
  | .ldHH => .ldReg .h .h
  | .ldHL => .ldReg .h .l
  | .ldHAtHl => .ldRegAtHl .h
  | .ldHA => .ldReg .h .a
  | .ldLB => .ldReg .l .b
  | .ldLC => .ldReg .l .c
  | .ldLD => .ldReg .l .d
  | .ldLE => .ldReg .l .e
  | .ldLH => .ldReg .l .h
  | .ldLL => .ldReg .l .l
  | .ldLAtHl => .ldRegAtHl .l
  | .ldLA => .ldReg .l .a
  | .ldAtHlB => .ldAtHlReg .b
  | .ldAtHlC => .ldAtHlReg .c
  | .ldAtHlD => .ldAtHlReg .d
  | .ldAtHlE => .ldAtHlReg .e
  | .ldAtHlH => .ldAtHlReg .h
  | .ldAtHlL => .ldAtHlReg .l
  | .halt => .halt
  | .ldAtHlA => .ldAtHlReg .a
  | .ldAB => .ldReg .a .b
  | .ldAC => .ldReg .a .c
  | .ldAD => .ldReg .a .d
  | .ldAE => .ldReg .a .e
  | .ldAH => .ldReg .a .h
  | .ldAL => .ldReg .a .l
  | .ldAAtHl => .ldRegAtHl .a
  | .ldAA => .ldReg .a .a
  | .addAB => .alu .add (.reg .b)
  | .addAC => .alu .add (.reg .c)
  | .addAD => .alu .add (.reg .d)
  | .addAE => .alu .add (.reg .e)
  | .addAH => .alu .add (.reg .h)
  | .addAL => .alu .add (.reg .l)
  | .addAAtHl => .alu .add .atHl
  | .addAA => .alu .add (.reg .a)
  | .adcAB => .alu .adc (.reg .b)
  | .adcAC => .alu .adc (.reg .c)
  | .adcAD => .alu .adc (.reg .d)
  | .adcAE => .alu .adc (.reg .e)
  | .adcAH => .alu .adc (.reg .h)
  | .adcAL => .alu .adc (.reg .l)
  | .adcAAtHl => .alu .adc .atHl
  | .adcAA => .alu .adc (.reg .a)
  | .subB => .alu .sub (.reg .b)
  | .subC => .alu .sub (.reg .c)
  | .subD => .alu .sub (.reg .d)
  | .subE => .alu .sub (.reg .e)
  | .subH => .alu .sub (.reg .h)
  | .subL => .alu .sub (.reg .l)
  | .subAtHl => .alu .sub .atHl
  | .subA => .alu .sub (.reg .a)
  | .sbcAB => .alu .sbc (.reg .b)
  | .sbcAC => .alu .sbc (.reg .c)
  | .sbcAD => .alu .sbc (.reg .d)
  | .sbcAE => .alu .sbc (.reg .e)
  | .sbcAH => .alu .sbc (.reg .h)
  | .sbcAL => .alu .sbc (.reg .l)
  | .sbcAAtHl => .alu .sbc .atHl
  | .sbcAA => .alu .sbc (.reg .a)
  | .andB => .alu .and (.reg .b)
  | .andC => .alu .and (.reg .c)
  | .andD => .alu .and (.reg .d)
  | .andE => .alu .and (.reg .e)
  | .andH => .alu .and (.reg .h)
  | .andL => .alu .and (.reg .l)
  | .andAtHl => .alu .and .atHl
  | .andA => .alu .and (.reg .a)
  | .xorB => .alu .xor (.reg .b)
  | .xorC => .alu .xor (.reg .c)
  | .xorD => .alu .xor (.reg .d)
  | .xorE => .alu .xor (.reg .e)
  | .xorH => .alu .xor (.reg .h)
  | .xorL => .alu .xor (.reg .l)
  | .xorAtHl => .alu .xor .atHl
  | .xorA => .alu .xor (.reg .a)
  | .orB => .alu .or (.reg .b)
  | .orC => .alu .or (.reg .c)
  | .orD => .alu .or (.reg .d)
  | .orE => .alu .or (.reg .e)
  | .orH => .alu .or (.reg .h)
  | .orL => .alu .or (.reg .l)
  | .orAtHl => .alu .or .atHl
  | .orA => .alu .or (.reg .a)
  | .cpB => .alu .cp (.reg .b)
  | .cpC => .alu .cp (.reg .c)
  | .cpD => .alu .cp (.reg .d)
  | .cpE => .alu .cp (.reg .e)
  | .cpH => .alu .cp (.reg .h)
  | .cpL => .alu .cp (.reg .l)
  | .cpAtHl => .alu .cp .atHl
  | .cpA => .alu .cp (.reg .a)
  | .retNz => .retCond .nz
  | .popBc => .pop .bc
  | .jpNzNn nn => .jpCond .nz nn
  | .jpNn nn => .jpNn nn
  | .callNzNn nn => .callCond .nz nn
  | .pushBc => .push .bc
  | .addAN n => .aluImm .add n
  | .rst00 => .rst 0
  | .retZ => .retCond .z
  | .ret => .ret
  | .jpZNn nn => .jpCond .z nn
  | .prefixCb op2 => .prefixCb op2
  | .callZNn nn => .callCond .z nn
  | .callNn nn => .callNn nn
  | .adcAN n => .aluImm .adc n
  | .rst08 => .rst 1
  | .retNc => .retCond .nc
  | .popDe => .pop .de
  | .jpNcNn nn => .jpCond .nc nn
  | .illegalD3 => .illegalD3
  | .callNcNn nn => .callCond .nc nn
  | .pushDe => .push .de
  | .subN n => .aluImm .sub n
  | .rst10 => .rst 2
  | .retCy => .retCond .c
  | .reti => .reti
  | .jpCyNn nn => .jpCond .c nn
  | .illegalDB => .illegalDB
  | .callCyNn nn => .callCond .c nn
  | .illegalDD => .illegalDD
  | .sbcAN n => .aluImm .sbc n
  | .rst18 => .rst 3
  | .ldhAtNA n => .ldhAtNA n
  | .popHl => .pop .hl
  | .ldAtCA => .ldAtCA
  | .illegalE3 => .illegalE3
  | .illegalE4 => .illegalE4
  | .pushHl => .push .hl
  | .andN n => .aluImm .and n
  | .rst20 => .rst 4
  | .addSpDisp e => .addSpDisp e
  | .jpHl => .jpHl
  | .ldAtNnA nn => .ldAtNnA nn
  | .illegalEB => .illegalEB
  | .illegalEC => .illegalEC
  | .illegalED => .illegalED
  | .xorN n => .aluImm .xor n
  | .rst28 => .rst 5
  | .ldhAAtN n => .ldhAAtN n
  | .popAf => .pop .af
  | .ldAAtC => .ldAAtC
  | .di => .di
  | .illegalF4 => .illegalF4
  | .pushAf => .push .af
  | .orN n => .aluImm .or n
  | .rst30 => .rst 6
  | .ldHlSpDisp e => .ldHlSpDisp e
  | .ldSpHl => .ldSpHl
  | .ldAAtNn nn => .ldAAtNn nn
  | .ei => .ei
  | .illegalFC => .illegalFC
  | .illegalFD => .illegalFD
  | .cpN n => .aluImm .cp n
  | .rst38 => .rst 7
  | .cbRlcB => .cbShift .rlc (.reg .b)
  | .cbRlcC => .cbShift .rlc (.reg .c)
  | .cbRlcD => .cbShift .rlc (.reg .d)
  | .cbRlcE => .cbShift .rlc (.reg .e)
  | .cbRlcH => .cbShift .rlc (.reg .h)
  | .cbRlcL => .cbShift .rlc (.reg .l)
  | .cbRlcAtHl => .cbShift .rlc .atHl
  | .cbRlcA => .cbShift .rlc (.reg .a)
  | .cbRrcB => .cbShift .rrc (.reg .b)
  | .cbRrcC => .cbShift .rrc (.reg .c)
  | .cbRrcD => .cbShift .rrc (.reg .d)
  | .cbRrcE => .cbShift .rrc (.reg .e)
  | .cbRrcH => .cbShift .rrc (.reg .h)
  | .cbRrcL => .cbShift .rrc (.reg .l)
  | .cbRrcAtHl => .cbShift .rrc .atHl
  | .cbRrcA => .cbShift .rrc (.reg .a)
  | .cbRlB => .cbShift .rl (.reg .b)
  | .cbRlC => .cbShift .rl (.reg .c)
  | .cbRlD => .cbShift .rl (.reg .d)
  | .cbRlE => .cbShift .rl (.reg .e)
  | .cbRlH => .cbShift .rl (.reg .h)
  | .cbRlL => .cbShift .rl (.reg .l)
  | .cbRlAtHl => .cbShift .rl .atHl
  | .cbRlA => .cbShift .rl (.reg .a)
  | .cbRrB => .cbShift .rr (.reg .b)
  | .cbRrC => .cbShift .rr (.reg .c)
  | .cbRrD => .cbShift .rr (.reg .d)
  | .cbRrE => .cbShift .rr (.reg .e)
  | .cbRrH => .cbShift .rr (.reg .h)
  | .cbRrL => .cbShift .rr (.reg .l)
  | .cbRrAtHl => .cbShift .rr .atHl
  | .cbRrA => .cbShift .rr (.reg .a)
  | .cbSlaB => .cbShift .sla (.reg .b)
  | .cbSlaC => .cbShift .sla (.reg .c)
  | .cbSlaD => .cbShift .sla (.reg .d)
  | .cbSlaE => .cbShift .sla (.reg .e)
  | .cbSlaH => .cbShift .sla (.reg .h)
  | .cbSlaL => .cbShift .sla (.reg .l)
  | .cbSlaAtHl => .cbShift .sla .atHl
  | .cbSlaA => .cbShift .sla (.reg .a)
  | .cbSraB => .cbShift .sra (.reg .b)
  | .cbSraC => .cbShift .sra (.reg .c)
  | .cbSraD => .cbShift .sra (.reg .d)
  | .cbSraE => .cbShift .sra (.reg .e)
  | .cbSraH => .cbShift .sra (.reg .h)
  | .cbSraL => .cbShift .sra (.reg .l)
  | .cbSraAtHl => .cbShift .sra .atHl
  | .cbSraA => .cbShift .sra (.reg .a)
  | .cbSwapB => .cbShift .swap (.reg .b)
  | .cbSwapC => .cbShift .swap (.reg .c)
  | .cbSwapD => .cbShift .swap (.reg .d)
  | .cbSwapE => .cbShift .swap (.reg .e)
  | .cbSwapH => .cbShift .swap (.reg .h)
  | .cbSwapL => .cbShift .swap (.reg .l)
  | .cbSwapAtHl => .cbShift .swap .atHl
  | .cbSwapA => .cbShift .swap (.reg .a)
  | .cbSrlB => .cbShift .srl (.reg .b)
  | .cbSrlC => .cbShift .srl (.reg .c)
  | .cbSrlD => .cbShift .srl (.reg .d)
  | .cbSrlE => .cbShift .srl (.reg .e)
  | .cbSrlH => .cbShift .srl (.reg .h)
  | .cbSrlL => .cbShift .srl (.reg .l)
  | .cbSrlAtHl => .cbShift .srl .atHl
  | .cbSrlA => .cbShift .srl (.reg .a)
  | .cbBit0B => .cbBit 0 (.reg .b)
  | .cbBit0C => .cbBit 0 (.reg .c)
  | .cbBit0D => .cbBit 0 (.reg .d)
  | .cbBit0E => .cbBit 0 (.reg .e)
  | .cbBit0H => .cbBit 0 (.reg .h)
  | .cbBit0L => .cbBit 0 (.reg .l)
  | .cbBit0AtHl => .cbBit 0 .atHl
  | .cbBit0A => .cbBit 0 (.reg .a)
  | .cbBit1B => .cbBit 1 (.reg .b)
  | .cbBit1C => .cbBit 1 (.reg .c)
  | .cbBit1D => .cbBit 1 (.reg .d)
  | .cbBit1E => .cbBit 1 (.reg .e)
  | .cbBit1H => .cbBit 1 (.reg .h)
  | .cbBit1L => .cbBit 1 (.reg .l)
  | .cbBit1AtHl => .cbBit 1 .atHl
  | .cbBit1A => .cbBit 1 (.reg .a)
  | .cbBit2B => .cbBit 2 (.reg .b)
  | .cbBit2C => .cbBit 2 (.reg .c)
  | .cbBit2D => .cbBit 2 (.reg .d)
  | .cbBit2E => .cbBit 2 (.reg .e)
  | .cbBit2H => .cbBit 2 (.reg .h)
  | .cbBit2L => .cbBit 2 (.reg .l)
  | .cbBit2AtHl => .cbBit 2 .atHl
  | .cbBit2A => .cbBit 2 (.reg .a)
  | .cbBit3B => .cbBit 3 (.reg .b)
  | .cbBit3C => .cbBit 3 (.reg .c)
  | .cbBit3D => .cbBit 3 (.reg .d)
  | .cbBit3E => .cbBit 3 (.reg .e)
  | .cbBit3H => .cbBit 3 (.reg .h)
  | .cbBit3L => .cbBit 3 (.reg .l)
  | .cbBit3AtHl => .cbBit 3 .atHl
  | .cbBit3A => .cbBit 3 (.reg .a)
  | .cbBit4B => .cbBit 4 (.reg .b)
  | .cbBit4C => .cbBit 4 (.reg .c)
  | .cbBit4D => .cbBit 4 (.reg .d)
  | .cbBit4E => .cbBit 4 (.reg .e)
  | .cbBit4H => .cbBit 4 (.reg .h)
  | .cbBit4L => .cbBit 4 (.reg .l)
  | .cbBit4AtHl => .cbBit 4 .atHl
  | .cbBit4A => .cbBit 4 (.reg .a)
  | .cbBit5B => .cbBit 5 (.reg .b)
  | .cbBit5C => .cbBit 5 (.reg .c)
  | .cbBit5D => .cbBit 5 (.reg .d)
  | .cbBit5E => .cbBit 5 (.reg .e)
  | .cbBit5H => .cbBit 5 (.reg .h)
  | .cbBit5L => .cbBit 5 (.reg .l)
  | .cbBit5AtHl => .cbBit 5 .atHl
  | .cbBit5A => .cbBit 5 (.reg .a)
  | .cbBit6B => .cbBit 6 (.reg .b)
  | .cbBit6C => .cbBit 6 (.reg .c)
  | .cbBit6D => .cbBit 6 (.reg .d)
  | .cbBit6E => .cbBit 6 (.reg .e)
  | .cbBit6H => .cbBit 6 (.reg .h)
  | .cbBit6L => .cbBit 6 (.reg .l)
  | .cbBit6AtHl => .cbBit 6 .atHl
  | .cbBit6A => .cbBit 6 (.reg .a)
  | .cbBit7B => .cbBit 7 (.reg .b)
  | .cbBit7C => .cbBit 7 (.reg .c)
  | .cbBit7D => .cbBit 7 (.reg .d)
  | .cbBit7E => .cbBit 7 (.reg .e)
  | .cbBit7H => .cbBit 7 (.reg .h)
  | .cbBit7L => .cbBit 7 (.reg .l)
  | .cbBit7AtHl => .cbBit 7 .atHl
  | .cbBit7A => .cbBit 7 (.reg .a)
  | .cbRes0B => .cbRes 0 (.reg .b)
  | .cbRes0C => .cbRes 0 (.reg .c)
  | .cbRes0D => .cbRes 0 (.reg .d)
  | .cbRes0E => .cbRes 0 (.reg .e)
  | .cbRes0H => .cbRes 0 (.reg .h)
  | .cbRes0L => .cbRes 0 (.reg .l)
  | .cbRes0AtHl => .cbRes 0 .atHl
  | .cbRes0A => .cbRes 0 (.reg .a)
  | .cbRes1B => .cbRes 1 (.reg .b)
  | .cbRes1C => .cbRes 1 (.reg .c)
  | .cbRes1D => .cbRes 1 (.reg .d)
  | .cbRes1E => .cbRes 1 (.reg .e)
  | .cbRes1H => .cbRes 1 (.reg .h)
  | .cbRes1L => .cbRes 1 (.reg .l)
  | .cbRes1AtHl => .cbRes 1 .atHl
  | .cbRes1A => .cbRes 1 (.reg .a)
  | .cbRes2B => .cbRes 2 (.reg .b)
  | .cbRes2C => .cbRes 2 (.reg .c)
  | .cbRes2D => .cbRes 2 (.reg .d)
  | .cbRes2E => .cbRes 2 (.reg .e)
  | .cbRes2H => .cbRes 2 (.reg .h)
  | .cbRes2L => .cbRes 2 (.reg .l)
  | .cbRes2AtHl => .cbRes 2 .atHl
  | .cbRes2A => .cbRes 2 (.reg .a)
  | .cbRes3B => .cbRes 3 (.reg .b)
  | .cbRes3C => .cbRes 3 (.reg .c)
  | .cbRes3D => .cbRes 3 (.reg .d)
  | .cbRes3E => .cbRes 3 (.reg .e)
  | .cbRes3H => .cbRes 3 (.reg .h)
  | .cbRes3L => .cbRes 3 (.reg .l)
  | .cbRes3AtHl => .cbRes 3 .atHl
  | .cbRes3A => .cbRes 3 (.reg .a)
  | .cbRes4B => .cbRes 4 (.reg .b)
  | .cbRes4C => .cbRes 4 (.reg .c)
  | .cbRes4D => .cbRes 4 (.reg .d)
  | .cbRes4E => .cbRes 4 (.reg .e)
  | .cbRes4H => .cbRes 4 (.reg .h)
  | .cbRes4L => .cbRes 4 (.reg .l)
  | .cbRes4AtHl => .cbRes 4 .atHl
  | .cbRes4A => .cbRes 4 (.reg .a)
  | .cbRes5B => .cbRes 5 (.reg .b)
  | .cbRes5C => .cbRes 5 (.reg .c)
  | .cbRes5D => .cbRes 5 (.reg .d)
  | .cbRes5E => .cbRes 5 (.reg .e)
  | .cbRes5H => .cbRes 5 (.reg .h)
  | .cbRes5L => .cbRes 5 (.reg .l)
  | .cbRes5AtHl => .cbRes 5 .atHl
  | .cbRes5A => .cbRes 5 (.reg .a)
  | .cbRes6B => .cbRes 6 (.reg .b)
  | .cbRes6C => .cbRes 6 (.reg .c)
  | .cbRes6D => .cbRes 6 (.reg .d)
  | .cbRes6E => .cbRes 6 (.reg .e)
  | .cbRes6H => .cbRes 6 (.reg .h)
  | .cbRes6L => .cbRes 6 (.reg .l)
  | .cbRes6AtHl => .cbRes 6 .atHl
  | .cbRes6A => .cbRes 6 (.reg .a)
  | .cbRes7B => .cbRes 7 (.reg .b)
  | .cbRes7C => .cbRes 7 (.reg .c)
  | .cbRes7D => .cbRes 7 (.reg .d)
  | .cbRes7E => .cbRes 7 (.reg .e)
  | .cbRes7H => .cbRes 7 (.reg .h)
  | .cbRes7L => .cbRes 7 (.reg .l)
  | .cbRes7AtHl => .cbRes 7 .atHl
  | .cbRes7A => .cbRes 7 (.reg .a)
  | .cbSet0B => .cbSet 0 (.reg .b)
  | .cbSet0C => .cbSet 0 (.reg .c)
  | .cbSet0D => .cbSet 0 (.reg .d)
  | .cbSet0E => .cbSet 0 (.reg .e)
  | .cbSet0H => .cbSet 0 (.reg .h)
  | .cbSet0L => .cbSet 0 (.reg .l)
  | .cbSet0AtHl => .cbSet 0 .atHl
  | .cbSet0A => .cbSet 0 (.reg .a)
  | .cbSet1B => .cbSet 1 (.reg .b)
  | .cbSet1C => .cbSet 1 (.reg .c)
  | .cbSet1D => .cbSet 1 (.reg .d)
  | .cbSet1E => .cbSet 1 (.reg .e)
  | .cbSet1H => .cbSet 1 (.reg .h)
  | .cbSet1L => .cbSet 1 (.reg .l)
  | .cbSet1AtHl => .cbSet 1 .atHl
  | .cbSet1A => .cbSet 1 (.reg .a)
  | .cbSet2B => .cbSet 2 (.reg .b)
  | .cbSet2C => .cbSet 2 (.reg .c)
  | .cbSet2D => .cbSet 2 (.reg .d)
  | .cbSet2E => .cbSet 2 (.reg .e)
  | .cbSet2H => .cbSet 2 (.reg .h)
  | .cbSet2L => .cbSet 2 (.reg .l)
  | .cbSet2AtHl => .cbSet 2 .atHl
  | .cbSet2A => .cbSet 2 (.reg .a)
  | .cbSet3B => .cbSet 3 (.reg .b)
  | .cbSet3C => .cbSet 3 (.reg .c)
  | .cbSet3D => .cbSet 3 (.reg .d)
  | .cbSet3E => .cbSet 3 (.reg .e)
  | .cbSet3H => .cbSet 3 (.reg .h)
  | .cbSet3L => .cbSet 3 (.reg .l)
  | .cbSet3AtHl => .cbSet 3 .atHl
  | .cbSet3A => .cbSet 3 (.reg .a)
  | .cbSet4B => .cbSet 4 (.reg .b)
  | .cbSet4C => .cbSet 4 (.reg .c)
  | .cbSet4D => .cbSet 4 (.reg .d)
  | .cbSet4E => .cbSet 4 (.reg .e)
  | .cbSet4H => .cbSet 4 (.reg .h)
  | .cbSet4L => .cbSet 4 (.reg .l)
  | .cbSet4AtHl => .cbSet 4 .atHl
  | .cbSet4A => .cbSet 4 (.reg .a)
  | .cbSet5B => .cbSet 5 (.reg .b)
  | .cbSet5C => .cbSet 5 (.reg .c)
  | .cbSet5D => .cbSet 5 (.reg .d)
  | .cbSet5E => .cbSet 5 (.reg .e)
  | .cbSet5H => .cbSet 5 (.reg .h)
  | .cbSet5L => .cbSet 5 (.reg .l)
  | .cbSet5AtHl => .cbSet 5 .atHl
  | .cbSet5A => .cbSet 5 (.reg .a)
  | .cbSet6B => .cbSet 6 (.reg .b)
  | .cbSet6C => .cbSet 6 (.reg .c)
  | .cbSet6D => .cbSet 6 (.reg .d)
  | .cbSet6E => .cbSet 6 (.reg .e)
  | .cbSet6H => .cbSet 6 (.reg .h)
  | .cbSet6L => .cbSet 6 (.reg .l)
  | .cbSet6AtHl => .cbSet 6 .atHl
  | .cbSet6A => .cbSet 6 (.reg .a)
  | .cbSet7B => .cbSet 7 (.reg .b)
  | .cbSet7C => .cbSet 7 (.reg .c)
  | .cbSet7D => .cbSet 7 (.reg .d)
  | .cbSet7E => .cbSet 7 (.reg .e)
  | .cbSet7H => .cbSet 7 (.reg .h)
  | .cbSet7L => .cbSet 7 (.reg .l)
  | .cbSet7AtHl => .cbSet 7 .atHl
  | .cbSet7A => .cbSet 7 (.reg .a)

/-! ## The meaning of a family -/

theorem exec_ldReg (dst src : Reg8) (s : State) : exec (Instr.ldReg dst src) s = loadReg dst src s := by
  cases dst <;> cases src <;> rfl

theorem exec_ldImm (dst : Reg8) (n : Byte) (s : State) : exec (Instr.ldImm dst n) s = loadImm dst n s := by
  cases dst <;> rfl

theorem exec_ldRegAtHl (dst : Reg8) (s : State) : exec (Instr.ldRegAtHl dst) s = loadFrom dst s.cpu.hl s := by
  cases dst <;> rfl

theorem exec_ldAtHlReg (src : Reg8) (s : State) : exec (Instr.ldAtHlReg src) s = storeTo s.cpu.hl (s.cpu.reg src) s := by
  cases src <;> rfl

theorem exec_alu (op : AluOp) (src : Operand8) (s : State) : exec (Instr.alu op src) s = aluOperand op src s := by
  cases op <;> (rcases src with (r | _) <;> try cases r) <;> rfl

theorem exec_aluImm (op : AluOp) (n : Byte) (s : State) : exec (Instr.aluImm op n) s = aluImm op n s := by
  cases op <;> rfl

theorem exec_inc8 (o : Operand8) (s : State) : exec (Instr.inc8 o) s = incOperand o s := by
  (rcases o with (r | _) <;> try cases r) <;> rfl

theorem exec_dec8 (o : Operand8) (s : State) : exec (Instr.dec8 o) s = decOperand o s := by
  (rcases o with (r | _) <;> try cases r) <;> rfl

theorem exec_ldPair (rr : Pair) (nn : Word) (s : State) : exec (Instr.ldPair rr nn) s = loadPair rr nn s := by
  cases rr <;> rfl

theorem exec_incPair (rr : Pair) (s : State) : exec (Instr.incPair rr) s = addToPair rr 1#16 s := by
  cases rr <;> rfl

theorem exec_decPair (rr : Pair) (s : State) : exec (Instr.decPair rr) s = addToPair rr (-1#16) s := by
  cases rr <;> rfl

theorem exec_addHl (rr : Pair) (s : State) : exec (Instr.addHl rr) s = addToHl rr s := by
  cases rr <;> rfl

theorem exec_push (rr : StackPair) (s : State) : exec (Instr.push rr) s = pushPair rr s := by
  cases rr <;> rfl

theorem exec_pop (rr : StackPair) (s : State) : exec (Instr.pop rr) s = popPair rr s := by
  cases rr <;> rfl

theorem exec_jpCond (cc : Cond) (nn : Word) (s : State) : exec (Instr.jpCond cc nn) s = jumpIf cc nn s := by
  cases cc <;> rfl

theorem exec_jrCond (cc : Cond) (e : Byte) (s : State) : exec (Instr.jrCond cc e) s = jumpIf cc (relativeTarget e s) s := by
  cases cc <;> rfl

theorem exec_callCond (cc : Cond) (nn : Word) (s : State) : exec (Instr.callCond cc nn) s = callIf cc nn s := by
  cases cc <;> rfl

theorem exec_retCond (cc : Cond) (s : State) : exec (Instr.retCond cc) s = returnIf cc s := by
  cases cc <;> rfl

theorem exec_rst (y : Fin 8) (s : State) : exec (Instr.rst y) s = callTo (BitVec.ofNat 16 (8 * y.val)) s := by
  fin_cases y <;> rfl

theorem exec_cbShift (op : ShiftOp) (o : Operand8) (s : State) : exec (Instr.cbShift op o) s = shiftOperand op o s := by
  cases op <;> (rcases o with (r | _) <;> try cases r) <;> rfl

theorem exec_cbBit (k : Fin 8) (o : Operand8) (s : State) : exec (Instr.cbBit k o) s = testBit k o s := by
  fin_cases k <;> (rcases o with (r | _) <;> try cases r) <;> rfl

theorem exec_cbRes (k : Fin 8) (o : Operand8) (s : State) : exec (Instr.cbRes k o) s = clearBit k o s := by
  fin_cases k <;> (rcases o with (r | _) <;> try cases r) <;> rfl

theorem exec_cbSet (k : Fin 8) (o : Operand8) (s : State) : exec (Instr.cbSet k o) s = raiseBit k o s := by
  fin_cases k <;> (rcases o with (r | _) <;> try cases r) <;> rfl

/-! ## The meaning of a single row -/

theorem exec_nop (s : State) : exec .nop s = .next s := rfl
theorem exec_ldAtBcA (s : State) : exec .ldAtBcA s = storeTo s.cpu.bc s.cpu.a s := rfl
theorem exec_rlca (s : State) : exec .rlca s = shiftA .rlc s := rfl
theorem exec_ldAtNnSp (nn : Word) (s : State) : exec (.ldAtNnSp nn) s = storeSp nn s := rfl
theorem exec_ldAAtBc (s : State) : exec .ldAAtBc s = loadFrom .a s.cpu.bc s := rfl
theorem exec_rrca (s : State) : exec .rrca s = shiftA .rrc s := rfl
theorem exec_stop (s : State) : exec .stop s = refuseStop s := rfl
theorem exec_ldAtDeA (s : State) : exec .ldAtDeA s = storeTo s.cpu.de s.cpu.a s := rfl
theorem exec_rla (s : State) : exec .rla s = shiftA .rl s := rfl
theorem exec_jrDisp (e : Byte) (s : State) : exec (.jrDisp e) s = jumpTo (relativeTarget e s) s := rfl
theorem exec_ldAAtDe (s : State) : exec .ldAAtDe s = loadFrom .a s.cpu.de s := rfl
theorem exec_rra (s : State) : exec .rra s = shiftA .rr s := rfl
theorem exec_ldAtHlIncA (s : State) : exec .ldAtHlIncA s = storeAStepping 1#16 s := rfl
theorem exec_daa (s : State) : exec .daa s = decimalAdjust s := rfl
theorem exec_ldAAtHlInc (s : State) : exec .ldAAtHlInc s = loadAStepping 1#16 s := rfl
theorem exec_cplA (s : State) : exec .cplA s = complementA s := rfl
theorem exec_ldAtHlDecA (s : State) : exec .ldAtHlDecA s = storeAStepping (-1#16) s := rfl
theorem exec_ldAtHlN (n : Byte) (s : State) : exec (.ldAtHlN n) s = storeTo s.cpu.hl n s := rfl
theorem exec_scf (s : State) : exec .scf s = writeCarry true s := rfl
theorem exec_ldAAtHlDec (s : State) : exec .ldAAtHlDec s = loadAStepping (-1#16) s := rfl
theorem exec_ccf (s : State) : exec .ccf s = writeCarry (!s.cpu.f.c) s := rfl
theorem exec_halt (s : State) : exec .halt s = haltCpu s := rfl
theorem exec_jpNn (nn : Word) (s : State) : exec (.jpNn nn) s = jumpTo nn s := rfl
theorem exec_ret (s : State) : exec .ret s = returnWith 4 s := rfl
theorem exec_prefixCb (op2 : Byte) (s : State) : exec (.prefixCb op2) s = execPrefixCb op2 s := rfl
theorem exec_callNn (nn : Word) (s : State) : exec (.callNn nn) s = callTo nn s := rfl
theorem exec_illegalD3 (s : State) : exec .illegalD3 s = raiseIllegal 0xD3#8 s := rfl
theorem exec_reti (s : State) : exec .reti s = returnFromInterrupt s := rfl
theorem exec_illegalDB (s : State) : exec .illegalDB s = raiseIllegal 0xDB#8 s := rfl
theorem exec_illegalDD (s : State) : exec .illegalDD s = raiseIllegal 0xDD#8 s := rfl
theorem exec_ldhAtNA (n : Byte) (s : State) : exec (.ldhAtNA n) s = storeTo (ioAddr n) s.cpu.a s := rfl
theorem exec_ldAtCA (s : State) : exec .ldAtCA s = storeTo (ioAddr s.cpu.c) s.cpu.a s := rfl
theorem exec_illegalE3 (s : State) : exec .illegalE3 s = raiseIllegal 0xE3#8 s := rfl
theorem exec_illegalE4 (s : State) : exec .illegalE4 s = raiseIllegal 0xE4#8 s := rfl
theorem exec_addSpDisp (e : Byte) (s : State) : exec (.addSpDisp e) s = addToSp e s := rfl
theorem exec_jpHl (s : State) : exec .jpHl s = jumpHl s := rfl
theorem exec_ldAtNnA (nn : Word) (s : State) : exec (.ldAtNnA nn) s = storeTo nn s.cpu.a s := rfl
theorem exec_illegalEB (s : State) : exec .illegalEB s = raiseIllegal 0xEB#8 s := rfl
theorem exec_illegalEC (s : State) : exec .illegalEC s = raiseIllegal 0xEC#8 s := rfl
theorem exec_illegalED (s : State) : exec .illegalED s = raiseIllegal 0xED#8 s := rfl
theorem exec_ldhAAtN (n : Byte) (s : State) : exec (.ldhAAtN n) s = loadFrom .a (ioAddr n) s := rfl
theorem exec_ldAAtC (s : State) : exec .ldAAtC s = loadFrom .a (ioAddr s.cpu.c) s := rfl
theorem exec_di (s : State) : exec .di s = disableInterrupts s := rfl
theorem exec_illegalF4 (s : State) : exec .illegalF4 s = raiseIllegal 0xF4#8 s := rfl
theorem exec_ldHlSpDisp (e : Byte) (s : State) : exec (.ldHlSpDisp e) s = loadHlSpDisp e s := rfl
theorem exec_ldSpHl (s : State) : exec .ldSpHl s = loadSpFromHl s := rfl
theorem exec_ldAAtNn (nn : Word) (s : State) : exec (.ldAAtNn nn) s = loadFrom .a nn s := rfl
theorem exec_ei (s : State) : exec .ei s = enableInterrupts s := rfl
theorem exec_illegalFC (s : State) : exec .illegalFC s = raiseIllegal 0xFC#8 s := rfl
theorem exec_illegalFD (s : State) : exec .illegalFD s = raiseIllegal 0xFD#8 s := rfl

end Sys2Proof.Laws
end

