-- ==== Sys2Proof/Laws/State.lean ====
section
/-! SUPPORT. One lemma per field per update of the state, and the register file's laws. -/

namespace Sys2Proof.Laws

open Sys2Proof.Machine Sys2Proof.Safety

/-! ## Updates of the state -/

@[simp] theorem withCpu_cpu (c : Cpu) (s : State) : (s.withCpu c).cpu = c := rfl
@[simp] theorem withCpu_bus (c : Cpu) (s : State) : (s.withCpu c).bus = s.bus := rfl
@[simp] theorem withCpu_tally (c : Cpu) (s : State) : (s.withCpu c).tally = s.tally := rfl
@[simp] theorem withCpu_cycles (c : Cpu) (s : State) : (s.withCpu c).cycles = s.cycles := rfl
@[simp] theorem withCpu_status (c : Cpu) (s : State) : (s.withCpu c).status = s.status := rfl

@[simp] theorem withBus_cpu (b : Bus) (s : State) : (s.withBus b).cpu = s.cpu := rfl
@[simp] theorem withBus_bus (b : Bus) (s : State) : (s.withBus b).bus = b := rfl
@[simp] theorem withBus_tally (b : Bus) (s : State) : (s.withBus b).tally = s.tally := rfl
@[simp] theorem withBus_cycles (b : Bus) (s : State) : (s.withBus b).cycles = s.cycles := rfl
@[simp] theorem withBus_status (b : Bus) (s : State) : (s.withBus b).status = s.status := rfl

@[simp] theorem setPc_cpu (v : Word) (s : State) : (s.setPc v).cpu = { s.cpu with pc := v } := rfl
@[simp] theorem setPc_bus (v : Word) (s : State) : (s.setPc v).bus = s.bus := rfl
@[simp] theorem setPc_tally (v : Word) (s : State) : (s.setPc v).tally = s.tally := rfl
@[simp] theorem setPc_cycles (v : Word) (s : State) : (s.setPc v).cycles = s.cycles := rfl
@[simp] theorem setPc_status (v : Word) (s : State) : (s.setPc v).status = s.status := rfl

@[simp] theorem setSp_cpu (v : Word) (s : State) : (s.setSp v).cpu = { s.cpu with sp := v } := rfl
@[simp] theorem setSp_bus (v : Word) (s : State) : (s.setSp v).bus = s.bus := rfl
@[simp] theorem setSp_tally (v : Word) (s : State) : (s.setSp v).tally = s.tally := rfl
@[simp] theorem setSp_cycles (v : Word) (s : State) : (s.setSp v).cycles = s.cycles := rfl
@[simp] theorem setSp_status (v : Word) (s : State) : (s.setSp v).status = s.status := rfl

@[simp] theorem tick_cpu (n : Nat) (s : State) : (s.tick n).cpu = s.cpu := rfl
@[simp] theorem tick_bus (n : Nat) (s : State) : (s.tick n).bus = s.bus := rfl
@[simp] theorem tick_tally (n : Nat) (s : State) : (s.tick n).tally = s.tally + n := rfl
@[simp] theorem tick_cycles (n : Nat) (s : State) : (s.tick n).cycles = s.cycles := rfl
@[simp] theorem tick_status (n : Nat) (s : State) : (s.tick n).status = s.status := rfl

@[simp] theorem setFlags_cpu (f : Flags) (s : State) : (s.setFlags f).cpu = { s.cpu with f := f } := rfl
@[simp] theorem setFlags_bus (f : Flags) (s : State) : (s.setFlags f).bus = s.bus := rfl
@[simp] theorem setFlags_tally (f : Flags) (s : State) : (s.setFlags f).tally = s.tally := rfl
@[simp] theorem setFlags_cycles (f : Flags) (s : State) : (s.setFlags f).cycles = s.cycles := rfl
@[simp] theorem setFlags_status (f : Flags) (s : State) : (s.setFlags f).status = s.status := rfl

@[simp] theorem beginStep_cpu  (s : State) : (s.beginStep).cpu = s.cpu := rfl
@[simp] theorem beginStep_bus  (s : State) : (s.beginStep).bus = s.bus := rfl
@[simp] theorem beginStep_tally  (s : State) : (s.beginStep).tally = 0 := rfl
@[simp] theorem beginStep_cycles  (s : State) : (s.beginStep).cycles = s.cycles := rfl
@[simp] theorem beginStep_status  (s : State) : (s.beginStep).status = s.status := rfl

@[simp] theorem close_cpu (n : Nat) (s : State) : (s.close n).cpu = s.cpu := rfl
@[simp] theorem close_bus (n : Nat) (s : State) : (s.close n).bus = s.bus := rfl
@[simp] theorem close_tally (n : Nat) (s : State) : (s.close n).tally = n := rfl
@[simp] theorem close_cycles (n : Nat) (s : State) : (s.close n).cycles = s.cycles + n := rfl
@[simp] theorem close_status (n : Nat) (s : State) : (s.close n).status = s.status := rfl

@[simp] theorem update_cpu (n : Nat) (s : State) : (s.update n).cpu = s.cpu := rfl
@[simp] theorem update_bus (n : Nat) (s : State) : (s.update n).bus = s.bus.update n := rfl
@[simp] theorem update_tally (n : Nat) (s : State) : (s.update n).tally = s.tally := rfl
@[simp] theorem update_cycles (n : Nat) (s : State) : (s.update n).cycles = s.cycles := rfl
@[simp] theorem update_status (n : Nat) (s : State) : (s.update n).status = s.status := rfl

@[simp] theorem acknowledge_cpu (i : Fin 5) (s : State) : (s.acknowledge i).cpu = { s.cpu with ime := false, halted := false, eiPending := 0#2 } := rfl
@[simp] theorem acknowledge_bus (i : Fin 5) (s : State) : (s.acknowledge i).bus = { s.bus with intFlag := s.bus.intFlag &&& ~~~(1#8 <<< i.val) } := rfl
@[simp] theorem acknowledge_tally (i : Fin 5) (s : State) : (s.acknowledge i).tally = 0 := rfl
@[simp] theorem acknowledge_cycles (i : Fin 5) (s : State) : (s.acknowledge i).cycles = s.cycles := rfl
@[simp] theorem acknowledge_status (i : Fin 5) (s : State) : (s.acknowledge i).status = s.status := rfl

@[simp] theorem tickHw_cpu (n : Nat) (s : State) : (s.tickHw n).cpu = s.cpu := by
  unfold State.tickHw; split <;> rfl
@[simp] theorem tickHw_bus (n : Nat) (s : State) : (s.tickHw n).bus = s.bus := by
  unfold State.tickHw; split <;> rfl
@[simp] theorem tickHw_tally (n : Nat) (s : State) : (s.tickHw n).tally = s.tally + hardwareOnly n s := by
  cases h : s.bus.params.timing <;> simp [State.tickHw, hardwareOnly, h]
@[simp] theorem tickHw_cycles (n : Nat) (s : State) : (s.tickHw n).cycles = s.cycles := by
  unfold State.tickHw; split <;> rfl
@[simp] theorem tickHw_status (n : Nat) (s : State) : (s.tickHw n).status = s.status := by
  unfold State.tickHw; split <;> rfl

@[simp] theorem eiTick_bus (s : State) : s.eiTick.bus = s.bus := by unfold State.eiTick; split <;> rfl
@[simp] theorem eiTick_tally (s : State) : s.eiTick.tally = s.tally := by unfold State.eiTick; split <;> rfl
@[simp] theorem eiTick_cycles (s : State) : s.eiTick.cycles = s.cycles := by unfold State.eiTick; split <;> rfl
@[simp] theorem eiTick_status (s : State) : s.eiTick.status = s.status := by unfold State.eiTick; split <;> rfl

/-- What a step adds under `Hardware` depends on the launch parameters alone. -/
theorem hardwareOnly_congr (n : Nat) {s t : State} (h : t.bus.params = s.bus.params) : hardwareOnly n t = hardwareOnly n s := by
  unfold hardwareOnly; rw [h]

@[simp] theorem hardwareOnly_zero (s : State) : hardwareOnly 0 s = 0 := by unfold hardwareOnly; split <;> rfl
@[simp] theorem hardwareOnly_withCpu (n : Nat) (c : Cpu) (s : State) : hardwareOnly n (s.withCpu c) = hardwareOnly n s := rfl
@[simp] theorem hardwareOnly_setPc (n : Nat) (v : Word) (s : State) : hardwareOnly n (s.setPc v) = hardwareOnly n s := rfl
@[simp] theorem hardwareOnly_setSp (n : Nat) (v : Word) (s : State) : hardwareOnly n (s.setSp v) = hardwareOnly n s := rfl
@[simp] theorem hardwareOnly_tick (n m : Nat) (s : State) : hardwareOnly n (s.tick m) = hardwareOnly n s := rfl
@[simp] theorem hardwareOnly_setFlags (n : Nat) (f : Flags) (s : State) : hardwareOnly n (s.setFlags f) = hardwareOnly n s := rfl
/-! ## Updates of the CPU -/

@[simp] theorem setReg_f (r : Reg8) (v : Byte) (c : Cpu) : (c.setReg r v).f = c.f := by cases r <;> rfl
@[simp] theorem setReg_sp (r : Reg8) (v : Byte) (c : Cpu) : (c.setReg r v).sp = c.sp := by cases r <;> rfl
@[simp] theorem setReg_pc (r : Reg8) (v : Byte) (c : Cpu) : (c.setReg r v).pc = c.pc := by cases r <;> rfl
@[simp] theorem setReg_ime (r : Reg8) (v : Byte) (c : Cpu) : (c.setReg r v).ime = c.ime := by cases r <;> rfl
@[simp] theorem setReg_halted (r : Reg8) (v : Byte) (c : Cpu) : (c.setReg r v).halted = c.halted := by cases r <;> rfl
@[simp] theorem setReg_eiPending (r : Reg8) (v : Byte) (c : Cpu) : (c.setReg r v).eiPending = c.eiPending := by cases r <;> rfl

@[simp] theorem setHl_f (v : Word) (c : Cpu) : (c.setHl v).f = c.f := rfl
@[simp] theorem setHl_sp (v : Word) (c : Cpu) : (c.setHl v).sp = c.sp := rfl
@[simp] theorem setHl_pc (v : Word) (c : Cpu) : (c.setHl v).pc = c.pc := rfl
@[simp] theorem setHl_ime (v : Word) (c : Cpu) : (c.setHl v).ime = c.ime := rfl
@[simp] theorem setHl_halted (v : Word) (c : Cpu) : (c.setHl v).halted = c.halted := rfl
@[simp] theorem setHl_eiPending (v : Word) (c : Cpu) : (c.setHl v).eiPending = c.eiPending := rfl

@[simp] theorem setAF_f (p : Byte × Flags) (c : Cpu) : (c.setAF p).f = p.2 := rfl
@[simp] theorem setAF_sp (p : Byte × Flags) (c : Cpu) : (c.setAF p).sp = c.sp := rfl
@[simp] theorem setAF_pc (p : Byte × Flags) (c : Cpu) : (c.setAF p).pc = c.pc := rfl
@[simp] theorem setAF_ime (p : Byte × Flags) (c : Cpu) : (c.setAF p).ime = c.ime := rfl
@[simp] theorem setAF_halted (p : Byte × Flags) (c : Cpu) : (c.setAF p).halted = c.halted := rfl
@[simp] theorem setAF_eiPending (p : Byte × Flags) (c : Cpu) : (c.setAF p).eiPending = c.eiPending := rfl

@[simp] theorem setPair_f (rr : Pair) (v : Word) (c : Cpu) : (c.setPair rr v).f = c.f := by cases rr <;> rfl
@[simp] theorem setPair_sp (rr : Pair) (v : Word) (c : Cpu) : (c.setPair rr v).sp = if rr = .sp then v else c.sp := by
  cases rr <;> rfl
@[simp] theorem setPair_pc (rr : Pair) (v : Word) (c : Cpu) : (c.setPair rr v).pc = c.pc := by cases rr <;> rfl
@[simp] theorem setPair_ime (rr : Pair) (v : Word) (c : Cpu) : (c.setPair rr v).ime = c.ime := by cases rr <;> rfl
@[simp] theorem setPair_halted (rr : Pair) (v : Word) (c : Cpu) : (c.setPair rr v).halted = c.halted := by cases rr <;> rfl
@[simp] theorem setPair_eiPending (rr : Pair) (v : Word) (c : Cpu) : (c.setPair rr v).eiPending = c.eiPending := by cases rr <;> rfl
@[simp] theorem setStackPair_f (rr : StackPair) (v : Word) (c : Cpu) :
    (c.setStackPair rr v).f = if rr = .af then Flags.ofByte (loByte v) else c.f := by cases rr <;> rfl
@[simp] theorem setStackPair_sp (rr : StackPair) (v : Word) (c : Cpu) : (c.setStackPair rr v).sp = c.sp := by
  cases rr <;> rfl
@[simp] theorem setStackPair_pc (rr : StackPair) (v : Word) (c : Cpu) : (c.setStackPair rr v).pc = c.pc := by
  cases rr <;> rfl
@[simp] theorem setStackPair_ime (rr : StackPair) (v : Word) (c : Cpu) : (c.setStackPair rr v).ime = c.ime := by
  cases rr <;> rfl
@[simp] theorem setStackPair_halted (rr : StackPair) (v : Word) (c : Cpu) : (c.setStackPair rr v).halted = c.halted := by
  cases rr <;> rfl
@[simp] theorem setStackPair_eiPending (rr : StackPair) (v : Word) (c : Cpu) : (c.setStackPair rr v).eiPending = c.eiPending := by
  cases rr <;> rfl

/-! ## The register file (00_scope.md R13, 10_state.md R21) -/

@[simp] theorem reg_setReg_same (r : Reg8) (v : Byte) (c : Cpu) : (c.setReg r v).reg r = v := by cases r <;> rfl

theorem reg_setReg_other {r r' : Reg8} (h : r' ≠ r) (v : Byte) (c : Cpu) : (c.setReg r v).reg r' = c.reg r' := by
  cases r <;> cases r' <;> first | rfl | exact absurd rfl h

/-- A register does not depend on SP, pc, the flags or the interrupt latches. -/
@[simp] theorem reg_withSp (r : Reg8) (v : Word) (c : Cpu) : ({ c with sp := v } : Cpu).reg r = c.reg r := by cases r <;> rfl
@[simp] theorem reg_withPc (r : Reg8) (v : Word) (c : Cpu) : ({ c with pc := v } : Cpu).reg r = c.reg r := by cases r <;> rfl
@[simp] theorem reg_withF (r : Reg8) (f : Flags) (c : Cpu) : ({ c with f := f } : Cpu).reg r = c.reg r := by cases r <;> rfl

theorem reg_setAF {r : Reg8} (h : r ≠ .a) (p : Byte × Flags) (c : Cpu) : (c.setAF p).reg r = c.reg r := by
  cases r <;> first | rfl | exact absurd rfl h

theorem reg_setHl {r : Reg8} (hh : r ≠ .h) (hl : r ≠ .l) (v : Word) (c : Cpu) : (c.setHl v).reg r = c.reg r := by
  cases r <;> first | rfl | exact absurd rfl hh | exact absurd rfl hl

theorem reg_setPair {rr : Pair} {r : Reg8} (h : Part.reg r ∉ pairParts rr) (v : Word) (c : Cpu) :
    (c.setPair rr v).reg r = c.reg r := by
  cases rr <;> cases r <;> first | rfl | simp [pairParts] at h

theorem reg_setStackPair {rr : StackPair} {r : Reg8} (h : Part.reg r ∉ stackPairParts rr) (v : Word) (c : Cpu) :
    (c.setStackPair rr v).reg r = c.reg r := by
  cases rr <;> cases r <;> first | rfl | simp [stackPairParts] at h

/-! ## Bytes and words -/

theorem toNat_wordOf (hi lo : Byte) : (wordOf hi lo).toNat = 256 * hi.toNat + lo.toNat := by
  unfold wordOf; rw [BitVec.toNat_append, ← Nat.shiftLeft_add_eq_or_of_lt lo.isLt, Nat.shiftLeft_eq]; omega
theorem toNat_hiByte (v : Word) : (hiByte v).toNat = v.toNat / 256 := by
  unfold hiByte; rw [BitVec.extractLsb'_toNat, Nat.shiftRight_eq_div_pow]; have := v.isLt; omega
theorem toNat_loByte (v : Word) : (loByte v).toNat = v.toNat % 256 := by
  unfold loByte; rw [BitVec.extractLsb'_toNat]; simp

@[simp] theorem wordOf_hi_lo (v : Word) : wordOf (hiByte v) (loByte v) = v := by
  apply BitVec.eq_of_toNat_eq; rw [toNat_wordOf, toNat_hiByte, toNat_loByte]; omega
@[simp] theorem hiByte_wordOf (hi lo : Byte) : hiByte (wordOf hi lo) = hi := by
  apply BitVec.eq_of_toNat_eq; rw [toNat_hiByte, toNat_wordOf]; have := lo.isLt; omega
@[simp] theorem loByte_wordOf (hi lo : Byte) : loByte (wordOf hi lo) = lo := by
  apply BitVec.eq_of_toNat_eq; rw [toNat_loByte, toNat_wordOf]; have := lo.isLt; omega

@[simp] theorem hl_setHl (v : Word) (c : Cpu) : (c.setHl v).hl = v := wordOf_hi_lo v
@[simp] theorem pair_setPair (rr : Pair) (v : Word) (c : Cpu) : (c.setPair rr v).pair rr = v := by
  cases rr <;> first | rfl | exact wordOf_hi_lo v

/-! ## Flags as a byte (10_state.md R22) -/

theorem toByte_ofByte (v : Byte) : (Flags.ofByte v).toByte = v &&& 0xF0#8 := by
  revert v; decide +revert
@[simp] theorem ofByte_toByte (f : Flags) : Flags.ofByte f.toByte = f := by
  obtain ⟨z, n, h, c⟩ := f; revert z n h c; decide
/-- What a write to AF leaves to be read (10_state.md R21). -/
theorem wordOf_masked (v : Word) : wordOf (hiByte v) (loByte v &&& 0xF0#8) = v &&& 0xFFF0#16 := by
  unfold wordOf hiByte loByte
  apply BitVec.eq_of_getLsbD_eq
  intro i hi
  simp only [BitVec.getLsbD_append, BitVec.getLsbD_extractLsb', BitVec.getLsbD_and]
  interval_cases i <;> simp
theorem toByte_low (f : Flags) : f.toByte &&& 0x0F#8 = 0#8 := by
  obtain ⟨z, n, h, c⟩ := f; revert z n h c; decide

end Sys2Proof.Laws
end

