-- ==== Sys2Proof/Laws/Ops.lean ====
section
/-! SUPPORT. What each shared operation and shape does, said once: when it stops, and what it needs to end in a next state. -/

namespace Sys2Proof.Laws

open Sys2Proof.Machine Sys2Proof.Safety

/-! ## Accesses -/

@[simp] theorem raise_ne_next (kind : FaultKind) (s t : State) : raise kind s ≠ .next t := by
  intro h; cases h

theorem readThen_ok {addr : Word} {s : State} {v : Byte} (h : s.bus.read addr = .ok v) (rest : Byte → State → Out) :
    readThen addr s rest = rest v (s.tick 4) := by unfold readThen; rw [h]
theorem readThen_error {addr : Word} {s : State} {kind : FaultKind} (h : s.bus.read addr = .error kind)
    (rest : Byte → State → Out) : readThen addr s rest = raise kind s := by unfold readThen; rw [h]
theorem writeThen_ok {addr : Word} {v : Byte} {s : State} {b : Bus} (h : s.bus.write addr v = .ok b) (rest : State → Out) :
    writeThen addr v s rest = rest ((s.withBus b).tick 4) := by unfold writeThen; rw [h]
theorem writeThen_error {addr : Word} {v : Byte} {s : State} {kind : FaultKind} (h : s.bus.write addr v = .error kind)
    (rest : State → Out) : writeThen addr v s rest = raise kind s := by unfold writeThen; rw [h]

theorem readThen_next {addr : Word} {s t : State} {rest : Byte → State → Out} :
    readThen addr s rest = .next t ↔ ∃ v, s.bus.read addr = .ok v ∧ rest v (s.tick 4) = .next t := by
  cases h : s.bus.read addr with
  | error kind => rw [readThen_error h]; simp
  | ok v => rw [readThen_ok h]; simp
theorem writeThen_next {addr : Word} {v : Byte} {s t : State} {rest : State → Out} :
    writeThen addr v s rest = .next t ↔ ∃ b, s.bus.write addr v = .ok b ∧ rest ((s.withBus b).tick 4) = .next t := by
  cases h : s.bus.write addr v with
  | error kind => rw [writeThen_error h]; simp
  | ok b => rw [writeThen_ok h]; simp

/-! ## Operands -/

@[simp] theorem readOperandThen_reg (r : Reg8) (s : State) (rest : Byte → State → Out) :
    readOperandThen (.reg r) s rest = rest (s.cpu.reg r) s := rfl
@[simp] theorem readOperandThen_atHl (s : State) (rest : Byte → State → Out) :
    readOperandThen .atHl s rest = readThen s.cpu.hl s rest := rfl
@[simp] theorem writeOperandThen_reg (r : Reg8) (v : Byte) (s : State) (rest : State → Out) :
    writeOperandThen (.reg r) v s rest = rest (s.withCpu (s.cpu.setReg r v)) := rfl
@[simp] theorem writeOperandThen_atHl (v : Byte) (s : State) (rest : State → Out) :
    writeOperandThen .atHl v s rest = writeThen s.cpu.hl v s rest := rfl

/-! ## The stack (00_scope.md R15) -/

/-- The address two below SP, as the second push step computes it. -/
theorem sub_one_sub_one (v : Word) : v - 1#16 - 1#16 = v - 2#16 := by bv_omega
theorem add_one_add_one (v : Word) : v + 1#16 + 1#16 = v + 2#16 := by bv_omega

/-- A push whose two writes complete. -/
theorem push16Then_ok {v : Word} {s : State} {b b' : Bus} (h : s.bus.write (s.cpu.sp - 1#16) (hiByte v) = .ok b)
    (h' : b.write (s.cpu.sp - 2#16) (loByte v) = .ok b') (rest : State → Out) :
    push16Then v s rest =
      rest { s with cpu := { s.cpu with sp := s.cpu.sp - 2#16 }, bus := b', tally := s.tally + 8 } := by
  unfold push16Then
  rw [writeThen_ok (s := s.setSp (s.cpu.sp - 1#16)) h, writeThen_ok (b := b')]
  · simp only [State.tick, State.withBus, State.setSp, State.withCpu, sub_one_sub_one]
  · simp only [State.tick, State.withBus, State.setSp, State.withCpu, sub_one_sub_one]; exact h'
theorem push16Then_first {v : Word} {s : State} {kind : FaultKind} (h : s.bus.write (s.cpu.sp - 1#16) (hiByte v) = .error kind)
    (rest : State → Out) :
    push16Then v s rest = raise kind { s with cpu := { s.cpu with sp := s.cpu.sp - 1#16 } } := by
  unfold push16Then
  rw [writeThen_error (s := s.setSp (s.cpu.sp - 1#16)) h]
  rfl
theorem push16Then_second {v : Word} {s : State} {b : Bus} {kind : FaultKind}
    (h : s.bus.write (s.cpu.sp - 1#16) (hiByte v) = .ok b) (h' : b.write (s.cpu.sp - 2#16) (loByte v) = .error kind)
    (rest : State → Out) :
    push16Then v s rest =
      raise kind { s with cpu := { s.cpu with sp := s.cpu.sp - 2#16 }, bus := b, tally := s.tally + 4 } := by
  unfold push16Then
  rw [writeThen_ok (s := s.setSp (s.cpu.sp - 1#16)) h, writeThen_error (kind := kind)]
  · simp only [State.tick, State.withBus, State.setSp, State.withCpu, sub_one_sub_one]
  · simp only [State.tick, State.withBus, State.setSp, State.withCpu, sub_one_sub_one]; exact h'
theorem push16Then_next {v : Word} {s t : State} {rest : State → Out} :
    push16Then v s rest = .next t ↔ ∃ b b', s.bus.write (s.cpu.sp - 1#16) (hiByte v) = .ok b ∧
      b.write (s.cpu.sp - 2#16) (loByte v) = .ok b' ∧
      rest { s with cpu := { s.cpu with sp := s.cpu.sp - 2#16 }, bus := b', tally := s.tally + 8 } = .next t := by
  cases h : s.bus.write (s.cpu.sp - 1#16) (hiByte v) with
  | error kind => rw [push16Then_first h]; simp
  | ok b =>
    cases h' : b.write (s.cpu.sp - 2#16) (loByte v) with
    | error kind => rw [push16Then_second h h']; simp [h']
    | ok b' => rw [push16Then_ok h h']; simp [h']

/-- A pop whose two reads complete. -/
theorem pop16Then_ok {s : State} {lo hi : Byte} (h : s.bus.read s.cpu.sp = .ok lo) (h' : s.bus.read (s.cpu.sp + 1#16) = .ok hi)
    (rest : Word → State → Out) :
    pop16Then s rest =
      rest (wordOf hi lo) { s with cpu := { s.cpu with sp := s.cpu.sp + 2#16 }, tally := s.tally + 8 } := by
  unfold pop16Then
  rw [readThen_ok h, readThen_ok (v := hi)]
  · simp only [State.tick, State.setSp, State.withCpu, add_one_add_one]
  · exact h'
theorem pop16Then_first {s : State} {kind : FaultKind} (h : s.bus.read s.cpu.sp = .error kind) (rest : Word → State → Out) :
    pop16Then s rest = raise kind s := by
  unfold pop16Then; rw [readThen_error h]
theorem pop16Then_second {s : State} {lo : Byte} {kind : FaultKind} (h : s.bus.read s.cpu.sp = .ok lo)
    (h' : s.bus.read (s.cpu.sp + 1#16) = .error kind) (rest : Word → State → Out) :
    pop16Then s rest = raise kind { s with cpu := { s.cpu with sp := s.cpu.sp + 1#16 }, tally := s.tally + 4 } := by
  unfold pop16Then
  rw [readThen_ok h, readThen_error (kind := kind)]
  · rfl
  · exact h'
theorem pop16Then_next {s t : State} {rest : Word → State → Out} :
    pop16Then s rest = .next t ↔ ∃ lo hi, s.bus.read s.cpu.sp = .ok lo ∧ s.bus.read (s.cpu.sp + 1#16) = .ok hi ∧
      rest (wordOf hi lo) { s with cpu := { s.cpu with sp := s.cpu.sp + 2#16 }, tally := s.tally + 8 } = .next t := by
  cases h : s.bus.read s.cpu.sp with
  | error kind => rw [pop16Then_first h]; simp
  | ok lo =>
    cases h' : s.bus.read (s.cpu.sp + 1#16) with
    | error kind => rw [pop16Then_second h h']; simp
    | ok hi => rw [pop16Then_ok h h']; simp

/-! ## Shapes that read or write memory -/

theorem loadFrom_next {dst : Reg8} {addr : Word} {s t : State} :
    loadFrom dst addr s = .next t ↔ ∃ v, s.bus.read addr = .ok v ∧ t = (s.tick 4).withCpu (s.cpu.setReg dst v) := by
  unfold loadFrom; rw [readThen_next]
  simp only [Host.Outcome.next.injEq, tick_cpu, eq_comm (b := t)]
theorem storeTo_next {addr : Word} {v : Byte} {s t : State} :
    storeTo addr v s = .next t ↔ ∃ b, s.bus.write addr v = .ok b ∧ t = (s.withBus b).tick 4 := by
  unfold storeTo; rw [writeThen_next]
  simp only [Host.Outcome.next.injEq, eq_comm (b := t)]
theorem loadAStepping_next {delta : Word} {s t : State} :
    loadAStepping delta s = .next t ↔
      ∃ v, s.bus.read s.cpu.hl = .ok v ∧ t = (s.tick 4).withCpu ((s.cpu.setReg .a v).setHl (s.cpu.hl + delta)) := by
  unfold loadAStepping; rw [readThen_next]
  simp only [Host.Outcome.next.injEq, tick_cpu, eq_comm (b := t)]
theorem storeAStepping_next {delta : Word} {s t : State} :
    storeAStepping delta s = .next t ↔
      ∃ b, s.bus.write s.cpu.hl s.cpu.a = .ok b ∧ t = ((s.withBus b).tick 4).withCpu (s.cpu.setHl (s.cpu.hl + delta)) := by
  unfold storeAStepping; rw [writeThen_next]
  simp only [Host.Outcome.next.injEq, tick_cpu, withBus_cpu, eq_comm (b := t)]
theorem storeSp_next {addr : Word} {s t : State} :
    storeSp addr s = .next t ↔ ∃ b b', s.bus.write addr (loByte s.cpu.sp) = .ok b ∧
      b.write (addr + 1#16) (hiByte s.cpu.sp) = .ok b' ∧ t = { s with bus := b', tally := s.tally + 8 } := by
  unfold storeSp
  simp only [writeThen_next, Host.Outcome.next.injEq, tick_cpu, withBus_cpu, tick_bus, withBus_bus, eq_comm (b := t)]
  constructor
  · rintro ⟨b, h, b', h', rfl⟩; exact ⟨b, b', h, h', rfl⟩
  · rintro ⟨b, b', h, h', rfl⟩; exact ⟨b, h, b', h', rfl⟩

theorem aluOperand_next {op : AluOp} {o : Operand8} {s t : State} :
    aluOperand op o s = .next t ↔ ∃ v n,
      (match o with
        | .reg r => v = s.cpu.reg r ∧ n = 0
        | .atHl => s.bus.read s.cpu.hl = .ok v ∧ n = 4) ∧
      t = (s.tick n).withCpu (s.cpu.setAF (alu8 op s.cpu.a v s.cpu.f)) := by
  unfold aluOperand
  cases o with
  | reg r =>
    simp only [readOperandThen_reg, Host.Outcome.next.injEq]
    constructor
    · rintro rfl; exact ⟨_, _, ⟨rfl, rfl⟩, rfl⟩
    · rintro ⟨v, n, ⟨rfl, rfl⟩, rfl⟩; rfl
  | atHl =>
    simp only [readOperandThen_atHl, readThen_next, Host.Outcome.next.injEq]
    constructor
    · rintro ⟨v, h, rfl⟩; exact ⟨v, 4, ⟨h, rfl⟩, rfl⟩
    · rintro ⟨v, n, ⟨h, rfl⟩, rfl⟩; exact ⟨v, h, rfl⟩

theorem testBit_next {k : Fin 8} {o : Operand8} {s t : State} :
    testBit k o s = .next t ↔ ∃ v n,
      (match o with
        | .reg r => v = s.cpu.reg r ∧ n = 0
        | .atHl => s.bus.read s.cpu.hl = .ok v ∧ n = 4) ∧
      t = (s.tick n).setFlags (bitFlags k v s.cpu.f) := by
  unfold testBit
  cases o with
  | reg r =>
    simp only [readOperandThen_reg, Host.Outcome.next.injEq]
    constructor
    · rintro rfl; exact ⟨_, _, ⟨rfl, rfl⟩, rfl⟩
    · rintro ⟨v, n, ⟨rfl, rfl⟩, rfl⟩; rfl
  | atHl =>
    simp only [readOperandThen_atHl, readThen_next, Host.Outcome.next.injEq]
    constructor
    · rintro ⟨v, h, rfl⟩; exact ⟨v, 4, ⟨h, rfl⟩, rfl⟩
    · rintro ⟨v, n, ⟨h, rfl⟩, rfl⟩; exact ⟨v, h, rfl⟩

/-- A read-modify-write of a register. -/
theorem modifyOperand_reg (r : Reg8) (value : Byte → Byte) (flags : Byte → Flags) (s : State) :
    modifyOperand (.reg r) value flags s =
      .next ((s.withCpu (s.cpu.setReg r (value (s.cpu.reg r)))).setFlags (flags (s.cpu.reg r))) := rfl
/-- A read-modify-write of the byte at HL. -/
theorem modifyOperand_atHl_next {value : Byte → Byte} {flags : Byte → Flags} {s t : State} :
    modifyOperand .atHl value flags s = .next t ↔ ∃ v b, s.bus.read s.cpu.hl = .ok v ∧
      s.bus.write s.cpu.hl (value v) = .ok b ∧
      t = { s with cpu := { s.cpu with f := flags v }, bus := b, tally := s.tally + 8 } := by
  unfold modifyOperand
  simp only [readOperandThen_atHl, readThen_next, writeOperandThen_atHl, writeThen_next, Host.Outcome.next.injEq, tick_cpu, tick_bus,
    eq_comm (b := t)]
  constructor
  · rintro ⟨v, h, b, h', rfl⟩; exact ⟨v, b, h, h', rfl⟩
  · rintro ⟨v, b, h, h', rfl⟩; exact ⟨v, h, b, h', rfl⟩
/-- The same without flags. -/
theorem rewriteOperand_reg (r : Reg8) (value : Byte → Byte) (s : State) :
    rewriteOperand (.reg r) value s = .next (s.withCpu (s.cpu.setReg r (value (s.cpu.reg r)))) := rfl
theorem rewriteOperand_atHl_next {value : Byte → Byte} {s t : State} :
    rewriteOperand .atHl value s = .next t ↔ ∃ v b, s.bus.read s.cpu.hl = .ok v ∧
      s.bus.write s.cpu.hl (value v) = .ok b ∧ t = { s with bus := b, tally := s.tally + 8 } := by
  unfold rewriteOperand
  simp only [readOperandThen_atHl, readThen_next, writeOperandThen_atHl, writeThen_next, Host.Outcome.next.injEq, tick_cpu, tick_bus,
    eq_comm (b := t)]
  constructor
  · rintro ⟨v, h, b, h', rfl⟩; exact ⟨v, b, h, h', rfl⟩
  · rintro ⟨v, b, h, h', rfl⟩; exact ⟨v, h, b, h', rfl⟩

theorem modifyOperand_readFault {value : Byte → Byte} {flags : Byte → Flags} {s : State} {kind : FaultKind}
    (h : s.bus.read s.cpu.hl = .error kind) : modifyOperand .atHl value flags s = raise kind s := by
  unfold modifyOperand; rw [readOperandThen_atHl, readThen_error h]
theorem rewriteOperand_readFault {value : Byte → Byte} {s : State} {kind : FaultKind}
    (h : s.bus.read s.cpu.hl = .error kind) : rewriteOperand .atHl value s = raise kind s := by
  unfold rewriteOperand; rw [readOperandThen_atHl, readThen_error h]
theorem modifyOperand_writeFault {value : Byte → Byte} {flags : Byte → Flags} {s : State} {v : Byte} {kind : FaultKind}
    (h : s.bus.read s.cpu.hl = .ok v) (h' : s.bus.write s.cpu.hl (value v) = .error kind) :
    modifyOperand .atHl value flags s = raise kind (s.tick 4) := by
  unfold modifyOperand
  rw [readOperandThen_atHl, readThen_ok h, writeOperandThen_atHl, writeThen_error (kind := kind)]
  exact h'
theorem rewriteOperand_writeFault {value : Byte → Byte} {s : State} {v : Byte} {kind : FaultKind}
    (h : s.bus.read s.cpu.hl = .ok v) (h' : s.bus.write s.cpu.hl (value v) = .error kind) :
    rewriteOperand .atHl value s = raise kind (s.tick 4) := by
  unfold rewriteOperand
  rw [readOperandThen_atHl, readThen_ok h, writeOperandThen_atHl, writeThen_error (kind := kind)]
  exact h'

end Sys2Proof.Laws
end

