-- ==== Sys2Proof/Laws/PerInstr.lean ====
section
/-! SUPPORT. The round trip of each instruction: its encoding decodes to it, whatever follows. One lemma for each constructor. -/

namespace Sys2Proof.Laws.RoundTrip

open Sys2Proof.Machine

/-- The encoding of a well-formed instruction, followed by any bytes, decodes to the instruction. -/
def Statement (i : Instr) : Prop := i.wellFormed = true → ∀ rest : List Byte, decode (encode i ++ rest) = .ok i

/-- The operand word of a three-byte instruction comes back from its two bytes. -/
theorem of_word {make : Word → Instr} {op : Byte} (nn : Word) (h : ∀ lo hi rest, decode (op :: lo :: hi :: rest) = .ok (make (wordOf hi lo)))
    (he : encode (make nn) = [op, loByte nn, hiByte nn]) : Statement (make nn) := by
  intro _ rest
  rw [he]
  exact (h _ _ _).trans (by rw [wordOf_hi_lo])

theorem nop : Statement .nop := fun _ _ => rfl
theorem ldBcNn (nn : Word) : Statement (.ldBcNn nn) := of_word (make := .ldBcNn) nn (fun _ _ _ => rfl) rfl
theorem ldAtBcA : Statement .ldAtBcA := fun _ _ => rfl
theorem incBc : Statement .incBc := fun _ _ => rfl
theorem incB : Statement .incB := fun _ _ => rfl
theorem decB : Statement .decB := fun _ _ => rfl
theorem ldBN (n : Byte) : Statement (.ldBN n) := fun _ _ => rfl
theorem rlca : Statement .rlca := fun _ _ => rfl
theorem ldAtNnSp (nn : Word) : Statement (.ldAtNnSp nn) := of_word (make := .ldAtNnSp) nn (fun _ _ _ => rfl) rfl
theorem addHlBc : Statement .addHlBc := fun _ _ => rfl
theorem ldAAtBc : Statement .ldAAtBc := fun _ _ => rfl
theorem decBc : Statement .decBc := fun _ _ => rfl
theorem incC : Statement .incC := fun _ _ => rfl
theorem decC : Statement .decC := fun _ _ => rfl
theorem ldCN (n : Byte) : Statement (.ldCN n) := fun _ _ => rfl
theorem rrca : Statement .rrca := fun _ _ => rfl
theorem stop : Statement .stop := fun _ _ => rfl
theorem ldDeNn (nn : Word) : Statement (.ldDeNn nn) := of_word (make := .ldDeNn) nn (fun _ _ _ => rfl) rfl
theorem ldAtDeA : Statement .ldAtDeA := fun _ _ => rfl
theorem incDe : Statement .incDe := fun _ _ => rfl
theorem incD : Statement .incD := fun _ _ => rfl
theorem decD : Statement .decD := fun _ _ => rfl
theorem ldDN (n : Byte) : Statement (.ldDN n) := fun _ _ => rfl
theorem rla : Statement .rla := fun _ _ => rfl
theorem jrDisp (e : Byte) : Statement (.jrDisp e) := fun _ _ => rfl
theorem addHlDe : Statement .addHlDe := fun _ _ => rfl
theorem ldAAtDe : Statement .ldAAtDe := fun _ _ => rfl
theorem decDe : Statement .decDe := fun _ _ => rfl
theorem incE : Statement .incE := fun _ _ => rfl
theorem decE : Statement .decE := fun _ _ => rfl
theorem ldEN (n : Byte) : Statement (.ldEN n) := fun _ _ => rfl
theorem rra : Statement .rra := fun _ _ => rfl
theorem jrNzDisp (e : Byte) : Statement (.jrNzDisp e) := fun _ _ => rfl
theorem ldHlNn (nn : Word) : Statement (.ldHlNn nn) := of_word (make := .ldHlNn) nn (fun _ _ _ => rfl) rfl
theorem ldAtHlIncA : Statement .ldAtHlIncA := fun _ _ => rfl
theorem incHl : Statement .incHl := fun _ _ => rfl
theorem incH : Statement .incH := fun _ _ => rfl
theorem decH : Statement .decH := fun _ _ => rfl
theorem ldHN (n : Byte) : Statement (.ldHN n) := fun _ _ => rfl
theorem daa : Statement .daa := fun _ _ => rfl
theorem jrZDisp (e : Byte) : Statement (.jrZDisp e) := fun _ _ => rfl
theorem addHlHl : Statement .addHlHl := fun _ _ => rfl
theorem ldAAtHlInc : Statement .ldAAtHlInc := fun _ _ => rfl
theorem decHl : Statement .decHl := fun _ _ => rfl
theorem incL : Statement .incL := fun _ _ => rfl
theorem decL : Statement .decL := fun _ _ => rfl
theorem ldLN (n : Byte) : Statement (.ldLN n) := fun _ _ => rfl
theorem cplA : Statement .cplA := fun _ _ => rfl
theorem jrNcDisp (e : Byte) : Statement (.jrNcDisp e) := fun _ _ => rfl
theorem ldSpNn (nn : Word) : Statement (.ldSpNn nn) := of_word (make := .ldSpNn) nn (fun _ _ _ => rfl) rfl
theorem ldAtHlDecA : Statement .ldAtHlDecA := fun _ _ => rfl
theorem incSp : Statement .incSp := fun _ _ => rfl
theorem incAtHl : Statement .incAtHl := fun _ _ => rfl
theorem decAtHl : Statement .decAtHl := fun _ _ => rfl
theorem ldAtHlN (n : Byte) : Statement (.ldAtHlN n) := fun _ _ => rfl
theorem scf : Statement .scf := fun _ _ => rfl
theorem jrCyDisp (e : Byte) : Statement (.jrCyDisp e) := fun _ _ => rfl
theorem addHlSp : Statement .addHlSp := fun _ _ => rfl
theorem ldAAtHlDec : Statement .ldAAtHlDec := fun _ _ => rfl
theorem decSp : Statement .decSp := fun _ _ => rfl
theorem incA : Statement .incA := fun _ _ => rfl
theorem decA : Statement .decA := fun _ _ => rfl
theorem ldAN (n : Byte) : Statement (.ldAN n) := fun _ _ => rfl
theorem ccf : Statement .ccf := fun _ _ => rfl
theorem ldBB : Statement .ldBB := fun _ _ => rfl
theorem ldBC : Statement .ldBC := fun _ _ => rfl
theorem ldBD : Statement .ldBD := fun _ _ => rfl
theorem ldBE : Statement .ldBE := fun _ _ => rfl
theorem ldBH : Statement .ldBH := fun _ _ => rfl
theorem ldBL : Statement .ldBL := fun _ _ => rfl
theorem ldBAtHl : Statement .ldBAtHl := fun _ _ => rfl
theorem ldBA : Statement .ldBA := fun _ _ => rfl
theorem ldCB : Statement .ldCB := fun _ _ => rfl
theorem ldCC : Statement .ldCC := fun _ _ => rfl
theorem ldCD : Statement .ldCD := fun _ _ => rfl
theorem ldCE : Statement .ldCE := fun _ _ => rfl
theorem ldCH : Statement .ldCH := fun _ _ => rfl
theorem ldCL : Statement .ldCL := fun _ _ => rfl
theorem ldCAtHl : Statement .ldCAtHl := fun _ _ => rfl
theorem ldCA : Statement .ldCA := fun _ _ => rfl
theorem ldDB : Statement .ldDB := fun _ _ => rfl
theorem ldDC : Statement .ldDC := fun _ _ => rfl
theorem ldDD : Statement .ldDD := fun _ _ => rfl
theorem ldDE : Statement .ldDE := fun _ _ => rfl
theorem ldDH : Statement .ldDH := fun _ _ => rfl
theorem ldDL : Statement .ldDL := fun _ _ => rfl
theorem ldDAtHl : Statement .ldDAtHl := fun _ _ => rfl
theorem ldDA : Statement .ldDA := fun _ _ => rfl
theorem ldEB : Statement .ldEB := fun _ _ => rfl
theorem ldEC : Statement .ldEC := fun _ _ => rfl
theorem ldED : Statement .ldED := fun _ _ => rfl
theorem ldEE : Statement .ldEE := fun _ _ => rfl
theorem ldEH : Statement .ldEH := fun _ _ => rfl
theorem ldEL : Statement .ldEL := fun _ _ => rfl
theorem ldEAtHl : Statement .ldEAtHl := fun _ _ => rfl
theorem ldEA : Statement .ldEA := fun _ _ => rfl
theorem ldHB : Statement .ldHB := fun _ _ => rfl
theorem ldHC : Statement .ldHC := fun _ _ => rfl
theorem ldHD : Statement .ldHD := fun _ _ => rfl
theorem ldHE : Statement .ldHE := fun _ _ => rfl
theorem ldHH : Statement .ldHH := fun _ _ => rfl
theorem ldHL : Statement .ldHL := fun _ _ => rfl
theorem ldHAtHl : Statement .ldHAtHl := fun _ _ => rfl
theorem ldHA : Statement .ldHA := fun _ _ => rfl
theorem ldLB : Statement .ldLB := fun _ _ => rfl
theorem ldLC : Statement .ldLC := fun _ _ => rfl
theorem ldLD : Statement .ldLD := fun _ _ => rfl
theorem ldLE : Statement .ldLE := fun _ _ => rfl
theorem ldLH : Statement .ldLH := fun _ _ => rfl
theorem ldLL : Statement .ldLL := fun _ _ => rfl
theorem ldLAtHl : Statement .ldLAtHl := fun _ _ => rfl
theorem ldLA : Statement .ldLA := fun _ _ => rfl
theorem ldAtHlB : Statement .ldAtHlB := fun _ _ => rfl
theorem ldAtHlC : Statement .ldAtHlC := fun _ _ => rfl
theorem ldAtHlD : Statement .ldAtHlD := fun _ _ => rfl
theorem ldAtHlE : Statement .ldAtHlE := fun _ _ => rfl
theorem ldAtHlH : Statement .ldAtHlH := fun _ _ => rfl
theorem ldAtHlL : Statement .ldAtHlL := fun _ _ => rfl
theorem halt : Statement .halt := fun _ _ => rfl
theorem ldAtHlA : Statement .ldAtHlA := fun _ _ => rfl
theorem ldAB : Statement .ldAB := fun _ _ => rfl
theorem ldAC : Statement .ldAC := fun _ _ => rfl
theorem ldAD : Statement .ldAD := fun _ _ => rfl
theorem ldAE : Statement .ldAE := fun _ _ => rfl
theorem ldAH : Statement .ldAH := fun _ _ => rfl
theorem ldAL : Statement .ldAL := fun _ _ => rfl
theorem ldAAtHl : Statement .ldAAtHl := fun _ _ => rfl
theorem ldAA : Statement .ldAA := fun _ _ => rfl
theorem addAB : Statement .addAB := fun _ _ => rfl
theorem addAC : Statement .addAC := fun _ _ => rfl
theorem addAD : Statement .addAD := fun _ _ => rfl
theorem addAE : Statement .addAE := fun _ _ => rfl
theorem addAH : Statement .addAH := fun _ _ => rfl
theorem addAL : Statement .addAL := fun _ _ => rfl
theorem addAAtHl : Statement .addAAtHl := fun _ _ => rfl
theorem addAA : Statement .addAA := fun _ _ => rfl
theorem adcAB : Statement .adcAB := fun _ _ => rfl
theorem adcAC : Statement .adcAC := fun _ _ => rfl
theorem adcAD : Statement .adcAD := fun _ _ => rfl
theorem adcAE : Statement .adcAE := fun _ _ => rfl
theorem adcAH : Statement .adcAH := fun _ _ => rfl
theorem adcAL : Statement .adcAL := fun _ _ => rfl
theorem adcAAtHl : Statement .adcAAtHl := fun _ _ => rfl
theorem adcAA : Statement .adcAA := fun _ _ => rfl
theorem subB : Statement .subB := fun _ _ => rfl
theorem subC : Statement .subC := fun _ _ => rfl
theorem subD : Statement .subD := fun _ _ => rfl
theorem subE : Statement .subE := fun _ _ => rfl
theorem subH : Statement .subH := fun _ _ => rfl
theorem subL : Statement .subL := fun _ _ => rfl
theorem subAtHl : Statement .subAtHl := fun _ _ => rfl
theorem subA : Statement .subA := fun _ _ => rfl
theorem sbcAB : Statement .sbcAB := fun _ _ => rfl
theorem sbcAC : Statement .sbcAC := fun _ _ => rfl
theorem sbcAD : Statement .sbcAD := fun _ _ => rfl
theorem sbcAE : Statement .sbcAE := fun _ _ => rfl
theorem sbcAH : Statement .sbcAH := fun _ _ => rfl
theorem sbcAL : Statement .sbcAL := fun _ _ => rfl
theorem sbcAAtHl : Statement .sbcAAtHl := fun _ _ => rfl
theorem sbcAA : Statement .sbcAA := fun _ _ => rfl
theorem andB : Statement .andB := fun _ _ => rfl
theorem andC : Statement .andC := fun _ _ => rfl
theorem andD : Statement .andD := fun _ _ => rfl
theorem andE : Statement .andE := fun _ _ => rfl
theorem andH : Statement .andH := fun _ _ => rfl
theorem andL : Statement .andL := fun _ _ => rfl
theorem andAtHl : Statement .andAtHl := fun _ _ => rfl
theorem andA : Statement .andA := fun _ _ => rfl
theorem xorB : Statement .xorB := fun _ _ => rfl
theorem xorC : Statement .xorC := fun _ _ => rfl
theorem xorD : Statement .xorD := fun _ _ => rfl
theorem xorE : Statement .xorE := fun _ _ => rfl
theorem xorH : Statement .xorH := fun _ _ => rfl
theorem xorL : Statement .xorL := fun _ _ => rfl
theorem xorAtHl : Statement .xorAtHl := fun _ _ => rfl
theorem xorA : Statement .xorA := fun _ _ => rfl
theorem orB : Statement .orB := fun _ _ => rfl
theorem orC : Statement .orC := fun _ _ => rfl
theorem orD : Statement .orD := fun _ _ => rfl
theorem orE : Statement .orE := fun _ _ => rfl
theorem orH : Statement .orH := fun _ _ => rfl
theorem orL : Statement .orL := fun _ _ => rfl
theorem orAtHl : Statement .orAtHl := fun _ _ => rfl
theorem orA : Statement .orA := fun _ _ => rfl
theorem cpB : Statement .cpB := fun _ _ => rfl
theorem cpC : Statement .cpC := fun _ _ => rfl
theorem cpD : Statement .cpD := fun _ _ => rfl
theorem cpE : Statement .cpE := fun _ _ => rfl
theorem cpH : Statement .cpH := fun _ _ => rfl
theorem cpL : Statement .cpL := fun _ _ => rfl
theorem cpAtHl : Statement .cpAtHl := fun _ _ => rfl
theorem cpA : Statement .cpA := fun _ _ => rfl
theorem retNz : Statement .retNz := fun _ _ => rfl
theorem popBc : Statement .popBc := fun _ _ => rfl
theorem jpNzNn (nn : Word) : Statement (.jpNzNn nn) := of_word (make := .jpNzNn) nn (fun _ _ _ => rfl) rfl
theorem jpNn (nn : Word) : Statement (.jpNn nn) := of_word (make := .jpNn) nn (fun _ _ _ => rfl) rfl
theorem callNzNn (nn : Word) : Statement (.callNzNn nn) := of_word (make := .callNzNn) nn (fun _ _ _ => rfl) rfl
theorem pushBc : Statement .pushBc := fun _ _ => rfl
theorem addAN (n : Byte) : Statement (.addAN n) := fun _ _ => rfl
theorem rst00 : Statement .rst00 := fun _ _ => rfl
theorem retZ : Statement .retZ := fun _ _ => rfl
theorem ret : Statement .ret := fun _ _ => rfl
theorem jpZNn (nn : Word) : Statement (.jpZNn nn) := of_word (make := .jpZNn) nn (fun _ _ _ => rfl) rfl
theorem prefixCb (op2 : Byte) : Statement (.prefixCb op2) := fun h => nomatch h
theorem callZNn (nn : Word) : Statement (.callZNn nn) := of_word (make := .callZNn) nn (fun _ _ _ => rfl) rfl
theorem callNn (nn : Word) : Statement (.callNn nn) := of_word (make := .callNn) nn (fun _ _ _ => rfl) rfl
theorem adcAN (n : Byte) : Statement (.adcAN n) := fun _ _ => rfl
theorem rst08 : Statement .rst08 := fun _ _ => rfl
theorem retNc : Statement .retNc := fun _ _ => rfl
theorem popDe : Statement .popDe := fun _ _ => rfl
theorem jpNcNn (nn : Word) : Statement (.jpNcNn nn) := of_word (make := .jpNcNn) nn (fun _ _ _ => rfl) rfl
theorem illegalD3 : Statement .illegalD3 := fun _ _ => rfl
theorem callNcNn (nn : Word) : Statement (.callNcNn nn) := of_word (make := .callNcNn) nn (fun _ _ _ => rfl) rfl
theorem pushDe : Statement .pushDe := fun _ _ => rfl
theorem subN (n : Byte) : Statement (.subN n) := fun _ _ => rfl
theorem rst10 : Statement .rst10 := fun _ _ => rfl
theorem retCy : Statement .retCy := fun _ _ => rfl
theorem reti : Statement .reti := fun _ _ => rfl
theorem jpCyNn (nn : Word) : Statement (.jpCyNn nn) := of_word (make := .jpCyNn) nn (fun _ _ _ => rfl) rfl
theorem illegalDB : Statement .illegalDB := fun _ _ => rfl
theorem callCyNn (nn : Word) : Statement (.callCyNn nn) := of_word (make := .callCyNn) nn (fun _ _ _ => rfl) rfl
theorem illegalDD : Statement .illegalDD := fun _ _ => rfl
theorem sbcAN (n : Byte) : Statement (.sbcAN n) := fun _ _ => rfl
theorem rst18 : Statement .rst18 := fun _ _ => rfl
theorem ldhAtNA (n : Byte) : Statement (.ldhAtNA n) := fun _ _ => rfl
theorem popHl : Statement .popHl := fun _ _ => rfl
theorem ldAtCA : Statement .ldAtCA := fun _ _ => rfl
theorem illegalE3 : Statement .illegalE3 := fun _ _ => rfl
theorem illegalE4 : Statement .illegalE4 := fun _ _ => rfl
theorem pushHl : Statement .pushHl := fun _ _ => rfl
theorem andN (n : Byte) : Statement (.andN n) := fun _ _ => rfl
theorem rst20 : Statement .rst20 := fun _ _ => rfl
theorem addSpDisp (e : Byte) : Statement (.addSpDisp e) := fun _ _ => rfl
theorem jpHl : Statement .jpHl := fun _ _ => rfl
theorem ldAtNnA (nn : Word) : Statement (.ldAtNnA nn) := of_word (make := .ldAtNnA) nn (fun _ _ _ => rfl) rfl
theorem illegalEB : Statement .illegalEB := fun _ _ => rfl
theorem illegalEC : Statement .illegalEC := fun _ _ => rfl
theorem illegalED : Statement .illegalED := fun _ _ => rfl
theorem xorN (n : Byte) : Statement (.xorN n) := fun _ _ => rfl
theorem rst28 : Statement .rst28 := fun _ _ => rfl
theorem ldhAAtN (n : Byte) : Statement (.ldhAAtN n) := fun _ _ => rfl
theorem popAf : Statement .popAf := fun _ _ => rfl
theorem ldAAtC : Statement .ldAAtC := fun _ _ => rfl
theorem di : Statement .di := fun _ _ => rfl
theorem illegalF4 : Statement .illegalF4 := fun _ _ => rfl
theorem pushAf : Statement .pushAf := fun _ _ => rfl
theorem orN (n : Byte) : Statement (.orN n) := fun _ _ => rfl
theorem rst30 : Statement .rst30 := fun _ _ => rfl
theorem ldHlSpDisp (e : Byte) : Statement (.ldHlSpDisp e) := fun _ _ => rfl
theorem ldSpHl : Statement .ldSpHl := fun _ _ => rfl
theorem ldAAtNn (nn : Word) : Statement (.ldAAtNn nn) := of_word (make := .ldAAtNn) nn (fun _ _ _ => rfl) rfl
theorem ei : Statement .ei := fun _ _ => rfl
theorem illegalFC : Statement .illegalFC := fun _ _ => rfl
theorem illegalFD : Statement .illegalFD := fun _ _ => rfl
theorem cpN (n : Byte) : Statement (.cpN n) := fun _ _ => rfl
theorem rst38 : Statement .rst38 := fun _ _ => rfl
theorem cbRlcB : Statement .cbRlcB := fun _ _ => rfl
theorem cbRlcC : Statement .cbRlcC := fun _ _ => rfl
theorem cbRlcD : Statement .cbRlcD := fun _ _ => rfl
theorem cbRlcE : Statement .cbRlcE := fun _ _ => rfl
theorem cbRlcH : Statement .cbRlcH := fun _ _ => rfl
theorem cbRlcL : Statement .cbRlcL := fun _ _ => rfl
theorem cbRlcAtHl : Statement .cbRlcAtHl := fun _ _ => rfl
theorem cbRlcA : Statement .cbRlcA := fun _ _ => rfl
theorem cbRrcB : Statement .cbRrcB := fun _ _ => rfl
theorem cbRrcC : Statement .cbRrcC := fun _ _ => rfl
theorem cbRrcD : Statement .cbRrcD := fun _ _ => rfl
theorem cbRrcE : Statement .cbRrcE := fun _ _ => rfl
theorem cbRrcH : Statement .cbRrcH := fun _ _ => rfl
theorem cbRrcL : Statement .cbRrcL := fun _ _ => rfl
theorem cbRrcAtHl : Statement .cbRrcAtHl := fun _ _ => rfl
theorem cbRrcA : Statement .cbRrcA := fun _ _ => rfl
theorem cbRlB : Statement .cbRlB := fun _ _ => rfl
theorem cbRlC : Statement .cbRlC := fun _ _ => rfl
theorem cbRlD : Statement .cbRlD := fun _ _ => rfl
theorem cbRlE : Statement .cbRlE := fun _ _ => rfl
theorem cbRlH : Statement .cbRlH := fun _ _ => rfl
theorem cbRlL : Statement .cbRlL := fun _ _ => rfl
theorem cbRlAtHl : Statement .cbRlAtHl := fun _ _ => rfl
theorem cbRlA : Statement .cbRlA := fun _ _ => rfl
theorem cbRrB : Statement .cbRrB := fun _ _ => rfl
theorem cbRrC : Statement .cbRrC := fun _ _ => rfl
theorem cbRrD : Statement .cbRrD := fun _ _ => rfl
theorem cbRrE : Statement .cbRrE := fun _ _ => rfl
theorem cbRrH : Statement .cbRrH := fun _ _ => rfl
theorem cbRrL : Statement .cbRrL := fun _ _ => rfl
theorem cbRrAtHl : Statement .cbRrAtHl := fun _ _ => rfl
theorem cbRrA : Statement .cbRrA := fun _ _ => rfl
theorem cbSlaB : Statement .cbSlaB := fun _ _ => rfl
theorem cbSlaC : Statement .cbSlaC := fun _ _ => rfl
theorem cbSlaD : Statement .cbSlaD := fun _ _ => rfl
theorem cbSlaE : Statement .cbSlaE := fun _ _ => rfl
theorem cbSlaH : Statement .cbSlaH := fun _ _ => rfl
theorem cbSlaL : Statement .cbSlaL := fun _ _ => rfl
theorem cbSlaAtHl : Statement .cbSlaAtHl := fun _ _ => rfl
theorem cbSlaA : Statement .cbSlaA := fun _ _ => rfl
theorem cbSraB : Statement .cbSraB := fun _ _ => rfl
theorem cbSraC : Statement .cbSraC := fun _ _ => rfl
theorem cbSraD : Statement .cbSraD := fun _ _ => rfl
theorem cbSraE : Statement .cbSraE := fun _ _ => rfl
theorem cbSraH : Statement .cbSraH := fun _ _ => rfl
theorem cbSraL : Statement .cbSraL := fun _ _ => rfl
theorem cbSraAtHl : Statement .cbSraAtHl := fun _ _ => rfl
theorem cbSraA : Statement .cbSraA := fun _ _ => rfl
theorem cbSwapB : Statement .cbSwapB := fun _ _ => rfl
theorem cbSwapC : Statement .cbSwapC := fun _ _ => rfl
theorem cbSwapD : Statement .cbSwapD := fun _ _ => rfl
theorem cbSwapE : Statement .cbSwapE := fun _ _ => rfl
theorem cbSwapH : Statement .cbSwapH := fun _ _ => rfl
theorem cbSwapL : Statement .cbSwapL := fun _ _ => rfl
theorem cbSwapAtHl : Statement .cbSwapAtHl := fun _ _ => rfl
theorem cbSwapA : Statement .cbSwapA := fun _ _ => rfl
theorem cbSrlB : Statement .cbSrlB := fun _ _ => rfl
theorem cbSrlC : Statement .cbSrlC := fun _ _ => rfl
theorem cbSrlD : Statement .cbSrlD := fun _ _ => rfl
theorem cbSrlE : Statement .cbSrlE := fun _ _ => rfl
theorem cbSrlH : Statement .cbSrlH := fun _ _ => rfl
theorem cbSrlL : Statement .cbSrlL := fun _ _ => rfl
theorem cbSrlAtHl : Statement .cbSrlAtHl := fun _ _ => rfl
theorem cbSrlA : Statement .cbSrlA := fun _ _ => rfl
theorem cbBit0B : Statement .cbBit0B := fun _ _ => rfl
theorem cbBit0C : Statement .cbBit0C := fun _ _ => rfl
theorem cbBit0D : Statement .cbBit0D := fun _ _ => rfl
theorem cbBit0E : Statement .cbBit0E := fun _ _ => rfl
theorem cbBit0H : Statement .cbBit0H := fun _ _ => rfl
theorem cbBit0L : Statement .cbBit0L := fun _ _ => rfl
theorem cbBit0AtHl : Statement .cbBit0AtHl := fun _ _ => rfl
theorem cbBit0A : Statement .cbBit0A := fun _ _ => rfl
theorem cbBit1B : Statement .cbBit1B := fun _ _ => rfl
theorem cbBit1C : Statement .cbBit1C := fun _ _ => rfl
theorem cbBit1D : Statement .cbBit1D := fun _ _ => rfl
theorem cbBit1E : Statement .cbBit1E := fun _ _ => rfl
theorem cbBit1H : Statement .cbBit1H := fun _ _ => rfl
theorem cbBit1L : Statement .cbBit1L := fun _ _ => rfl
theorem cbBit1AtHl : Statement .cbBit1AtHl := fun _ _ => rfl
theorem cbBit1A : Statement .cbBit1A := fun _ _ => rfl
theorem cbBit2B : Statement .cbBit2B := fun _ _ => rfl
theorem cbBit2C : Statement .cbBit2C := fun _ _ => rfl
theorem cbBit2D : Statement .cbBit2D := fun _ _ => rfl
theorem cbBit2E : Statement .cbBit2E := fun _ _ => rfl
theorem cbBit2H : Statement .cbBit2H := fun _ _ => rfl
theorem cbBit2L : Statement .cbBit2L := fun _ _ => rfl
theorem cbBit2AtHl : Statement .cbBit2AtHl := fun _ _ => rfl
theorem cbBit2A : Statement .cbBit2A := fun _ _ => rfl
theorem cbBit3B : Statement .cbBit3B := fun _ _ => rfl
theorem cbBit3C : Statement .cbBit3C := fun _ _ => rfl
theorem cbBit3D : Statement .cbBit3D := fun _ _ => rfl
theorem cbBit3E : Statement .cbBit3E := fun _ _ => rfl
theorem cbBit3H : Statement .cbBit3H := fun _ _ => rfl
theorem cbBit3L : Statement .cbBit3L := fun _ _ => rfl
theorem cbBit3AtHl : Statement .cbBit3AtHl := fun _ _ => rfl
theorem cbBit3A : Statement .cbBit3A := fun _ _ => rfl
theorem cbBit4B : Statement .cbBit4B := fun _ _ => rfl
theorem cbBit4C : Statement .cbBit4C := fun _ _ => rfl
theorem cbBit4D : Statement .cbBit4D := fun _ _ => rfl
theorem cbBit4E : Statement .cbBit4E := fun _ _ => rfl
theorem cbBit4H : Statement .cbBit4H := fun _ _ => rfl
theorem cbBit4L : Statement .cbBit4L := fun _ _ => rfl
theorem cbBit4AtHl : Statement .cbBit4AtHl := fun _ _ => rfl
theorem cbBit4A : Statement .cbBit4A := fun _ _ => rfl
theorem cbBit5B : Statement .cbBit5B := fun _ _ => rfl
theorem cbBit5C : Statement .cbBit5C := fun _ _ => rfl
theorem cbBit5D : Statement .cbBit5D := fun _ _ => rfl
theorem cbBit5E : Statement .cbBit5E := fun _ _ => rfl
theorem cbBit5H : Statement .cbBit5H := fun _ _ => rfl
theorem cbBit5L : Statement .cbBit5L := fun _ _ => rfl
theorem cbBit5AtHl : Statement .cbBit5AtHl := fun _ _ => rfl
theorem cbBit5A : Statement .cbBit5A := fun _ _ => rfl
theorem cbBit6B : Statement .cbBit6B := fun _ _ => rfl
theorem cbBit6C : Statement .cbBit6C := fun _ _ => rfl
theorem cbBit6D : Statement .cbBit6D := fun _ _ => rfl
theorem cbBit6E : Statement .cbBit6E := fun _ _ => rfl
theorem cbBit6H : Statement .cbBit6H := fun _ _ => rfl
theorem cbBit6L : Statement .cbBit6L := fun _ _ => rfl
theorem cbBit6AtHl : Statement .cbBit6AtHl := fun _ _ => rfl
theorem cbBit6A : Statement .cbBit6A := fun _ _ => rfl
theorem cbBit7B : Statement .cbBit7B := fun _ _ => rfl
theorem cbBit7C : Statement .cbBit7C := fun _ _ => rfl
theorem cbBit7D : Statement .cbBit7D := fun _ _ => rfl
theorem cbBit7E : Statement .cbBit7E := fun _ _ => rfl
theorem cbBit7H : Statement .cbBit7H := fun _ _ => rfl
theorem cbBit7L : Statement .cbBit7L := fun _ _ => rfl
theorem cbBit7AtHl : Statement .cbBit7AtHl := fun _ _ => rfl
theorem cbBit7A : Statement .cbBit7A := fun _ _ => rfl
theorem cbRes0B : Statement .cbRes0B := fun _ _ => rfl
theorem cbRes0C : Statement .cbRes0C := fun _ _ => rfl
theorem cbRes0D : Statement .cbRes0D := fun _ _ => rfl
theorem cbRes0E : Statement .cbRes0E := fun _ _ => rfl
theorem cbRes0H : Statement .cbRes0H := fun _ _ => rfl
theorem cbRes0L : Statement .cbRes0L := fun _ _ => rfl
theorem cbRes0AtHl : Statement .cbRes0AtHl := fun _ _ => rfl
theorem cbRes0A : Statement .cbRes0A := fun _ _ => rfl
theorem cbRes1B : Statement .cbRes1B := fun _ _ => rfl
theorem cbRes1C : Statement .cbRes1C := fun _ _ => rfl
theorem cbRes1D : Statement .cbRes1D := fun _ _ => rfl
theorem cbRes1E : Statement .cbRes1E := fun _ _ => rfl
theorem cbRes1H : Statement .cbRes1H := fun _ _ => rfl
theorem cbRes1L : Statement .cbRes1L := fun _ _ => rfl
theorem cbRes1AtHl : Statement .cbRes1AtHl := fun _ _ => rfl
theorem cbRes1A : Statement .cbRes1A := fun _ _ => rfl
theorem cbRes2B : Statement .cbRes2B := fun _ _ => rfl
theorem cbRes2C : Statement .cbRes2C := fun _ _ => rfl
theorem cbRes2D : Statement .cbRes2D := fun _ _ => rfl
theorem cbRes2E : Statement .cbRes2E := fun _ _ => rfl
theorem cbRes2H : Statement .cbRes2H := fun _ _ => rfl
theorem cbRes2L : Statement .cbRes2L := fun _ _ => rfl
theorem cbRes2AtHl : Statement .cbRes2AtHl := fun _ _ => rfl
theorem cbRes2A : Statement .cbRes2A := fun _ _ => rfl
theorem cbRes3B : Statement .cbRes3B := fun _ _ => rfl
theorem cbRes3C : Statement .cbRes3C := fun _ _ => rfl
theorem cbRes3D : Statement .cbRes3D := fun _ _ => rfl
theorem cbRes3E : Statement .cbRes3E := fun _ _ => rfl
theorem cbRes3H : Statement .cbRes3H := fun _ _ => rfl
theorem cbRes3L : Statement .cbRes3L := fun _ _ => rfl
theorem cbRes3AtHl : Statement .cbRes3AtHl := fun _ _ => rfl
theorem cbRes3A : Statement .cbRes3A := fun _ _ => rfl
theorem cbRes4B : Statement .cbRes4B := fun _ _ => rfl
theorem cbRes4C : Statement .cbRes4C := fun _ _ => rfl
theorem cbRes4D : Statement .cbRes4D := fun _ _ => rfl
theorem cbRes4E : Statement .cbRes4E := fun _ _ => rfl
theorem cbRes4H : Statement .cbRes4H := fun _ _ => rfl
theorem cbRes4L : Statement .cbRes4L := fun _ _ => rfl
theorem cbRes4AtHl : Statement .cbRes4AtHl := fun _ _ => rfl
theorem cbRes4A : Statement .cbRes4A := fun _ _ => rfl
theorem cbRes5B : Statement .cbRes5B := fun _ _ => rfl
theorem cbRes5C : Statement .cbRes5C := fun _ _ => rfl
theorem cbRes5D : Statement .cbRes5D := fun _ _ => rfl
theorem cbRes5E : Statement .cbRes5E := fun _ _ => rfl
theorem cbRes5H : Statement .cbRes5H := fun _ _ => rfl
theorem cbRes5L : Statement .cbRes5L := fun _ _ => rfl
theorem cbRes5AtHl : Statement .cbRes5AtHl := fun _ _ => rfl
theorem cbRes5A : Statement .cbRes5A := fun _ _ => rfl
theorem cbRes6B : Statement .cbRes6B := fun _ _ => rfl
theorem cbRes6C : Statement .cbRes6C := fun _ _ => rfl
theorem cbRes6D : Statement .cbRes6D := fun _ _ => rfl
theorem cbRes6E : Statement .cbRes6E := fun _ _ => rfl
theorem cbRes6H : Statement .cbRes6H := fun _ _ => rfl
theorem cbRes6L : Statement .cbRes6L := fun _ _ => rfl
theorem cbRes6AtHl : Statement .cbRes6AtHl := fun _ _ => rfl
theorem cbRes6A : Statement .cbRes6A := fun _ _ => rfl
theorem cbRes7B : Statement .cbRes7B := fun _ _ => rfl
theorem cbRes7C : Statement .cbRes7C := fun _ _ => rfl
theorem cbRes7D : Statement .cbRes7D := fun _ _ => rfl
theorem cbRes7E : Statement .cbRes7E := fun _ _ => rfl
theorem cbRes7H : Statement .cbRes7H := fun _ _ => rfl
theorem cbRes7L : Statement .cbRes7L := fun _ _ => rfl
theorem cbRes7AtHl : Statement .cbRes7AtHl := fun _ _ => rfl
theorem cbRes7A : Statement .cbRes7A := fun _ _ => rfl
theorem cbSet0B : Statement .cbSet0B := fun _ _ => rfl
theorem cbSet0C : Statement .cbSet0C := fun _ _ => rfl
theorem cbSet0D : Statement .cbSet0D := fun _ _ => rfl
theorem cbSet0E : Statement .cbSet0E := fun _ _ => rfl
theorem cbSet0H : Statement .cbSet0H := fun _ _ => rfl
theorem cbSet0L : Statement .cbSet0L := fun _ _ => rfl
theorem cbSet0AtHl : Statement .cbSet0AtHl := fun _ _ => rfl
theorem cbSet0A : Statement .cbSet0A := fun _ _ => rfl
theorem cbSet1B : Statement .cbSet1B := fun _ _ => rfl
theorem cbSet1C : Statement .cbSet1C := fun _ _ => rfl
theorem cbSet1D : Statement .cbSet1D := fun _ _ => rfl
theorem cbSet1E : Statement .cbSet1E := fun _ _ => rfl
theorem cbSet1H : Statement .cbSet1H := fun _ _ => rfl
theorem cbSet1L : Statement .cbSet1L := fun _ _ => rfl
theorem cbSet1AtHl : Statement .cbSet1AtHl := fun _ _ => rfl
theorem cbSet1A : Statement .cbSet1A := fun _ _ => rfl
theorem cbSet2B : Statement .cbSet2B := fun _ _ => rfl
theorem cbSet2C : Statement .cbSet2C := fun _ _ => rfl
theorem cbSet2D : Statement .cbSet2D := fun _ _ => rfl
theorem cbSet2E : Statement .cbSet2E := fun _ _ => rfl
theorem cbSet2H : Statement .cbSet2H := fun _ _ => rfl
theorem cbSet2L : Statement .cbSet2L := fun _ _ => rfl
theorem cbSet2AtHl : Statement .cbSet2AtHl := fun _ _ => rfl
theorem cbSet2A : Statement .cbSet2A := fun _ _ => rfl
theorem cbSet3B : Statement .cbSet3B := fun _ _ => rfl
theorem cbSet3C : Statement .cbSet3C := fun _ _ => rfl
theorem cbSet3D : Statement .cbSet3D := fun _ _ => rfl
theorem cbSet3E : Statement .cbSet3E := fun _ _ => rfl
theorem cbSet3H : Statement .cbSet3H := fun _ _ => rfl
theorem cbSet3L : Statement .cbSet3L := fun _ _ => rfl
theorem cbSet3AtHl : Statement .cbSet3AtHl := fun _ _ => rfl
theorem cbSet3A : Statement .cbSet3A := fun _ _ => rfl
theorem cbSet4B : Statement .cbSet4B := fun _ _ => rfl
theorem cbSet4C : Statement .cbSet4C := fun _ _ => rfl
theorem cbSet4D : Statement .cbSet4D := fun _ _ => rfl
theorem cbSet4E : Statement .cbSet4E := fun _ _ => rfl
theorem cbSet4H : Statement .cbSet4H := fun _ _ => rfl
theorem cbSet4L : Statement .cbSet4L := fun _ _ => rfl
theorem cbSet4AtHl : Statement .cbSet4AtHl := fun _ _ => rfl
theorem cbSet4A : Statement .cbSet4A := fun _ _ => rfl
theorem cbSet5B : Statement .cbSet5B := fun _ _ => rfl
theorem cbSet5C : Statement .cbSet5C := fun _ _ => rfl
theorem cbSet5D : Statement .cbSet5D := fun _ _ => rfl
theorem cbSet5E : Statement .cbSet5E := fun _ _ => rfl
theorem cbSet5H : Statement .cbSet5H := fun _ _ => rfl
theorem cbSet5L : Statement .cbSet5L := fun _ _ => rfl
theorem cbSet5AtHl : Statement .cbSet5AtHl := fun _ _ => rfl
theorem cbSet5A : Statement .cbSet5A := fun _ _ => rfl
theorem cbSet6B : Statement .cbSet6B := fun _ _ => rfl
theorem cbSet6C : Statement .cbSet6C := fun _ _ => rfl
theorem cbSet6D : Statement .cbSet6D := fun _ _ => rfl
theorem cbSet6E : Statement .cbSet6E := fun _ _ => rfl
theorem cbSet6H : Statement .cbSet6H := fun _ _ => rfl
theorem cbSet6L : Statement .cbSet6L := fun _ _ => rfl
theorem cbSet6AtHl : Statement .cbSet6AtHl := fun _ _ => rfl
theorem cbSet6A : Statement .cbSet6A := fun _ _ => rfl
theorem cbSet7B : Statement .cbSet7B := fun _ _ => rfl
theorem cbSet7C : Statement .cbSet7C := fun _ _ => rfl
theorem cbSet7D : Statement .cbSet7D := fun _ _ => rfl
theorem cbSet7E : Statement .cbSet7E := fun _ _ => rfl
theorem cbSet7H : Statement .cbSet7H := fun _ _ => rfl
theorem cbSet7L : Statement .cbSet7L := fun _ _ => rfl
theorem cbSet7AtHl : Statement .cbSet7AtHl := fun _ _ => rfl
theorem cbSet7A : Statement .cbSet7A := fun _ _ => rfl

end Sys2Proof.Laws.RoundTrip
end

