-- ==== Sys2Proof/Laws/Step.lean ====
section
/-! SUPPORT. The parts of a step: the fetch, the EI count and the choice of the poll. -/

namespace Sys2Proof.Laws

open Sys2Proof.Machine Sys2Proof.Safety

/-! ## Fetching (30_encoding.md R112) -/

/-- The boot latch's update at an opcode fetch does not change what the opcode's address reads. -/
@[simp] theorem read_afterOpcodeFetch (b : Bus) (a : Word) : (b.afterOpcodeFetch a).read a = b.read a := by
  unfold Bus.read Bus.afterOpcodeFetch
  cases hr : route a <;> try rfl
  rename_i off
  have := targetAt_of_route hr
  simp only [TargetAt] at this
  rw [this.1]
  cases b.booting <;> by_cases h : off < 0x100 <;> simp [h]

theorem fetch8Then_ok {s : State} {v : Byte} (h : s.bus.read s.cpu.pc = .ok v) (rest : Byte → State → Out) :
    fetch8Then s rest = rest v ((s.tick 4).setPc (s.cpu.pc + 1#16)) := by
  unfold fetch8Then; rw [readThen_ok h]; rfl
theorem fetch8Then_next {s t : State} {rest : Byte → State → Out} :
    fetch8Then s rest = .next t ↔
      ∃ v, s.bus.read s.cpu.pc = .ok v ∧ rest v ((s.tick 4).setPc (s.cpu.pc + 1#16)) = .next t := by
  unfold fetch8Then; rw [readThen_next]; rfl

/-- The state after `n` bytes have been fetched from pc on. -/
def fetched (n : Nat) (s : State) : State :=
  { s with cpu := { s.cpu with pc := s.cpu.pc + BitVec.ofNat 16 n }, bus := s.bus.afterOpcodeFetch s.cpu.pc
           tally := s.tally + 4 * n }

/-- A fetch that hands an instruction on has fetched one to three bytes. -/
theorem fetchThen_next {s t : State} {rest : Instr → State → Out} (h : fetchThen s rest = .next t) :
    ∃ i n, 0 < n ∧ n < 4 ∧ rest i (fetched n s) = .next t := by
  unfold fetchThen fetchOpcodeThen at h
  obtain ⟨op, -, h⟩ := fetch8Then_next.1 h
  dsimp only at h
  split at h
  · exact ⟨_, 1, by decide, by decide, h⟩
  · rename_i make _
    obtain ⟨n, -, h⟩ := fetch8Then_next.1 h
    refine ⟨make n, 2, by decide, by decide, ?_⟩
    unfold fetched
    rw [show s.cpu.pc + BitVec.ofNat 16 2 = s.cpu.pc + 1#16 + 1#16 from (add_one_add_one _).symm]
    exact h
  · rename_i make _
    obtain ⟨lo, -, h⟩ := fetch8Then_next.1 h
    obtain ⟨hi, -, h⟩ := fetch8Then_next.1 h
    refine ⟨make (wordOf hi lo), 3, by decide, by decide, ?_⟩
    unfold fetched
    rw [show s.cpu.pc + BitVec.ofNat 16 3 = s.cpu.pc + 1#16 + 1#16 + 1#16 by generalize s.cpu.pc = v; bv_omega]
    exact h

/-! ## The end of a step (60_exceptions.md R231) -/

theorem step_next {s t : State} (h : step s = .next t) :
    s.status = .running ∧
      (if s.cpu.halted then finishStep (s.beginStep.tick 4)
        else fetchThen s.beginStep fun i s => afterInstruction (exec i s)) = .next t := by
  unfold step Status.stopOr at h
  split at h
  · exact ⟨by assumption, h⟩
  · cases h
  · cases h
theorem afterInstruction_next {o : Out} {t : State} : afterInstruction o = .next t ↔ ∃ u, o = .next u ∧ finishStep u = .next t := by
  cases o <;> simp [afterInstruction]

/-- Without an EI counting down the step's end leaves the latches. -/
theorem eiTick_idle {s : State} (h : s.bus.params.eiDelay = false ∨ s.cpu.eiPending = 0#2) : s.eiTick = s := by
  unfold State.eiTick; rcases h with h | h <;> simp [h]

/-- The poll finds nothing exactly when none of the five sources is pending and enabled. -/
theorem pending_eq_none (b : Bus) :
    b.pending = none ↔ ∀ i, i < 5 → (b.intFlag &&& b.intEnable).getLsbD i = false := by
  unfold Bus.pending lowestBit
  generalize b.intFlag &&& b.intEnable = p
  constructor
  · intro h i hi
    repeat' (split at h; · cases h)
    interval_cases i <;> (apply Bool.eq_false_iff.2; assumption)
  · intro h
    rw [if_neg, if_neg, if_neg, if_neg, if_neg] <;> rw [h _ (by decide)] <;> decide

/-- The poll finds the lowest source that is pending and enabled (R255). -/
theorem pending_eq_some {b : Bus} {i : Fin 5} (hi : (b.intFlag &&& b.intEnable).getLsbD i.val = true)
    (hl : ∀ j, j < i.val → (b.intFlag &&& b.intEnable).getLsbD j = false) : b.pending = some i := by
  unfold Bus.pending lowestBit
  revert hi hl
  generalize b.intFlag &&& b.intEnable = p
  intro hi hl
  fin_cases i
  · rw [if_pos hi]; rfl
  · rw [if_neg (by rw [hl 0 (by decide)]; decide), if_pos hi]; rfl
  · rw [if_neg (by rw [hl 0 (by decide)]; decide), if_neg (by rw [hl 1 (by decide)]; decide), if_pos hi]; rfl
  · rw [if_neg (by rw [hl 0 (by decide)]; decide), if_neg (by rw [hl 1 (by decide)]; decide),
      if_neg (by rw [hl 2 (by decide)]; decide), if_pos hi]; rfl
  · rw [if_neg (by rw [hl 0 (by decide)]; decide), if_neg (by rw [hl 1 (by decide)]; decide),
      if_neg (by rw [hl 2 (by decide)]; decide), if_neg (by rw [hl 3 (by decide)]; decide), if_pos hi]; rfl

end Sys2Proof.Laws
end

