-- ==== Sys2Proof/Laws/Timer.lean ====
section
/-! SUPPORT. The timer: what `k` edges leave, and that two advances in a row are one. -/

namespace Sys2Proof.Laws

open Sys2Proof.Machine Sys2Proof.Safety

@[simp] theorem edge_counter (t : Timer) : t.edge.counter = t.counter := by unfold Timer.edge; split <;> rfl
@[simp] theorem edge_tma (t : Timer) : t.edge.tma = t.tma := by unfold Timer.edge; split <;> rfl
@[simp] theorem edge_tac (t : Timer) : t.edge.tac = t.tac := by unfold Timer.edge; split <;> rfl

@[simp] theorem edges_counter (k : Nat) (t : Timer) : (t.edges k).counter = t.counter := by
  induction k generalizing t with
  | zero => rfl
  | succ k ih => simp [Timer.edges, ih]
@[simp] theorem edges_tma (k : Nat) (t : Timer) : (t.edges k).tma = t.tma := by
  induction k generalizing t with
  | zero => rfl
  | succ k ih => simp [Timer.edges, ih]
@[simp] theorem edges_tac (k : Nat) (t : Timer) : (t.edges k).tac = t.tac := by
  induction k generalizing t with
  | zero => rfl
  | succ k ih => simp [Timer.edges, ih]

/-- `k` edges from TIMA (60_exceptions.md R261): it counts on, and past 0xFF it counts on from TMA over and over. -/
theorem edges_tima (k : Nat) (t : Timer) :
    (t.edges k).tima.toNat = (if t.tima.toNat + k ≤ 0xFF then t.tima.toNat + k
      else t.tma.toNat + (t.tima.toNat + k - 256) % (256 - t.tma.toNat)) := by
  have hm : ∀ t : Timer, t.tma.toNat < 256 := fun t => t.tma.isLt
  have ht : ∀ t : Timer, t.tima.toNat < 256 := fun t => t.tima.isLt
  induction k generalizing t with
  | zero => have := ht t; simp only [Timer.edges]; rw [if_pos (by omega)]; rfl
  | succ k ih =>
    rw [Timer.edges, ih]
    by_cases h : t.tima = 0xFF#8
    · have e : t.edge = { t with tima := t.tma, req := true } := by simp [Timer.edge, h]
      rw [e, h]
      have hM := hm t
      simp only [show (0xFF#8).toNat = 255 from rfl]
      rw [if_neg (by omega : ¬ 255 + (k + 1) ≤ 255), show 255 + (k + 1) - 256 = k by omega]
      split
      · rw [Nat.mod_eq_of_lt (by omega : k < 256 - t.tma.toNat)]
      · rw [show t.tma.toNat + k - 256 = k - (256 - t.tma.toNat) by omega, ← Nat.mod_eq_sub_mod (by omega)]
    · have hlt : t.tima.toNat < 255 := by
        have := ht t
        have hne : t.tima.toNat ≠ 255 := fun hh => h (BitVec.eq_of_toNat_eq hh)
        omega
      have e : t.edge = { t with tima := t.tima + 1#8 } := by simp [Timer.edge, h]
      rw [e]
      have hp : (t.tima + 1#8).toNat = t.tima.toNat + 1 := by rw [BitVec.toNat_add]; simp; omega
      simp only [hp]
      rw [show t.tima.toNat + 1 + k = t.tima.toNat + (k + 1) by omega]

/-- The request after `k` edges (R262). -/
theorem edges_req (k : Nat) (t : Timer) : (t.edges k).req = true ↔ t.req = true ∨ 0xFF < t.tima.toNat + k := by
  induction k generalizing t with
  | zero => have := t.tima.isLt; simp only [Timer.edges]; constructor <;> intro h <;> first | exact Or.inl h | (rcases h with h | h; exact h; omega)
  | succ k ih =>
    rw [Timer.edges, ih]
    by_cases h : t.tima = 0xFF#8
    · have e : t.edge = { t with tima := t.tma, req := true } := by simp [Timer.edge, h]
      rw [e, h]; simp
    · have hlt : t.tima.toNat < 255 := by
        have := t.tima.isLt
        have hne : t.tima.toNat ≠ 255 := fun hh => h (BitVec.eq_of_toNat_eq hh)
        omega
      have e : t.edge = { t with tima := t.tima + 1#8 } := by simp [Timer.edge, h]
      rw [e]
      have hp : (t.tima + 1#8).toNat = t.tima.toNat + 1 := by rw [BitVec.toNat_add]; simp; omega
      simp only [hp]
      rw [show t.tima.toNat + 1 + k = t.tima.toNat + (k + 1) by omega]

theorem edges_add (j k : Nat) (t : Timer) : (t.edges j).edges k = t.edges (j + k) := by
  induction j generalizing t with
  | zero => simp [Timer.edges]
  | succ j ih => rw [Nat.succ_add]; simp only [Timer.edges]; exact ih t.edge

/-- The divisor is one of four powers of two, and so divides 2^16. -/
theorem divisor_cases (t : Timer) : t.divisor = 1024 ∨ t.divisor = 16 ∨ t.divisor = 64 ∨ t.divisor = 256 := by
  unfold Timer.divisor; split <;> simp

@[simp] theorem advance_counter (n : Nat) (t : Timer) : (t.advance n).counter = BitVec.ofNat 16 (t.counter.toNat + n) := by
  unfold Timer.advance; dsimp only; split <;> simp
@[simp] theorem advance_tma (n : Nat) (t : Timer) : (t.advance n).tma = t.tma := by
  unfold Timer.advance; dsimp only; split <;> simp
@[simp] theorem advance_tac (n : Nat) (t : Timer) : (t.advance n).tac = t.tac := by
  unfold Timer.advance; dsimp only; split <;> simp

/-- The request flag is only ever raised: edges on a timer with the flag given apart. -/
theorem edges_withReq (k : Nat) (t : Timer) (r : Bool) :
    ({ t with req := r || t.req } : Timer).edges k = { t.edges k with req := r || (t.edges k).req } := by
  induction k generalizing t with
  | zero => rfl
  | succ k ih =>
    simp only [Timer.edges]
    rw [← ih]
    congr 1
    unfold Timer.edge
    dsimp only
    split <;> simp

theorem advance_withReq (n : Nat) (t : Timer) (r : Bool) :
    ({ t with req := r || t.req } : Timer).advance n = { t.advance n with req := r || (t.advance n).req } := by
  by_cases h : t.enabled = true
  · have e : t.advance n = ({ t with counter := BitVec.ofNat 16 (t.counter.toNat + n) } : Timer).edges
        ((t.counter.toNat + n) / t.divisor - t.counter.toNat / t.divisor) := if_pos h
    rw [e, ← edges_withReq]
    exact if_pos h
  · have e : t.advance n = { t with counter := BitVec.ofNat 16 (t.counter.toNat + n) } := if_neg h
    rw [e]
    exact if_neg h

/-- Edges move the counter of a timer along unchanged. -/
theorem edges_withCounter (k : Nat) (t : Timer) (c : Word) :
    ({ t with counter := c } : Timer).edges k = { t.edges k with counter := c } := by
  induction k generalizing t with
  | zero => rfl
  | succ k ih =>
    simp only [Timer.edges]
    rw [← ih]
    congr 1
    unfold Timer.edge
    dsimp only
    split <;> rfl

/-- Two advances in a row are one (60_exceptions.md R241). -/
theorem timer_advance_add (m n : Nat) (t : Timer) : (t.advance m).advance n = t.advance (m + n) := by
  have hc := t.counter.isLt
  unfold Timer.advance
  by_cases h : t.enabled = true
  · dsimp only
    rw [if_pos h, edges_withCounter]
    have hen : ({ t.edges ((t.counter.toNat + m) / t.divisor - t.counter.toNat / t.divisor) with
        counter := BitVec.ofNat 16 (t.counter.toNat + m) } : Timer).enabled = true := by
      simpa [Timer.enabled] using h
    have hdv : ({ t.edges ((t.counter.toNat + m) / t.divisor - t.counter.toNat / t.divisor) with
        counter := BitVec.ofNat 16 (t.counter.toNat + m) } : Timer).divisor = t.divisor := by
      simp [Timer.divisor]
    rw [if_pos hen, hdv, if_pos h]
    simp only [edges_withCounter, edges_add, BitVec.toNat_ofNat]
    have hk : (t.counter.toNat + m) / t.divisor - t.counter.toNat / t.divisor +
        (((t.counter.toNat + m) % 2 ^ 16 + n) / t.divisor - (t.counter.toNat + m) % 2 ^ 16 / t.divisor) =
        (t.counter.toNat + (m + n)) / t.divisor - t.counter.toNat / t.divisor := by
      rcases divisor_cases t with hD | hD | hD | hD <;> rw [hD] <;> omega
    rw [hk]
    congr 1
    apply BitVec.eq_of_toNat_eq
    simp only [BitVec.toNat_ofNat]
    omega
  · dsimp only
    rw [if_neg h]
    have hen : ¬ ({ t with counter := BitVec.ofNat 16 (t.counter.toNat + m) } : Timer).enabled = true := by
      simpa [Timer.enabled] using h
    rw [if_neg hen, if_neg h]
    congr 1
    apply BitVec.eq_of_toNat_eq
    simp only [BitVec.toNat_ofNat]
    omega

end Sys2Proof.Laws
end

