-- ==== Sys2Proof/Tests/Slice0.lean ====
section
/-! SUPPORT. The model's own tests: the well-formedness smoke, every row of the table decoded from a word written out from the spec's
encoding, vectors of spec/95_test_vectors.md one step each, and for every statement with hypotheses the witnesses that meet them. -/

namespace Sys2Proof.Tests

open Sys2Proof.Machine Sys2Proof.Safety Sys2Proof.Claims


/-! ## Well-formedness and decoding -/

/-- The one ill-formed shape: the prefix alone is no instruction (30_encoding.md R115). -/
theorem test_prefix_is_ill_formed : (Instr.prefixCb 0x37#8).wellFormed = false := by decide

/-- Its words are an extended row's. -/
theorem test_prefix_words_are_extended_rows : decode (encode (.prefixCb 0x37#8)) = .ok .cbSwapA := by rfl

/-- Operands of every value are admitted (R119). -/
theorem test_operands_are_well_formed : (Instr.jpNn 0xFFFF#16).wellFormed = true ∧ (Instr.ldAN 0x00#8).wellFormed = true := by decide

/-- Each word below is written out from the encoding its rule gives, the fields by the tables of 30_encoding.md R102 to R107. The
functions `Instr.ldReg` and so on name one constructor for each value of their fields. R120. -/
theorem test_decode_register_loads (dst r : Reg8) : decode [0b01#2 ++ regCode dst ++ regCode r] = .ok (Instr.ldReg dst r) := by
  cases dst <;> cases r <;> rfl

/-- R121 to R123, and R116: the code of (HL), (HL) is HALT. -/
theorem test_decode_byte_loads (r : Reg8) (n : Byte) :
    decode [0b00#2 ++ regCode r ++ 0b110#3, n] = .ok (Instr.ldImm r n) ∧
    decode [0b01#2 ++ regCode r ++ 0b110#3] = .ok (Instr.ldRegAtHl r) ∧
    decode [0b01110#5 ++ regCode r] = .ok (Instr.ldAtHlReg r) ∧ decode [0b01110110#8] = .ok .halt := by
  cases r <;> exact ⟨rfl, rfl, rfl, rfl⟩

/-- R124 to R138. -/
theorem test_decode_address_loads (n lo hi : Byte) :
    decode [0x36#8, n] = .ok (.ldAtHlN n) ∧ decode [0x0A#8] = .ok .ldAAtBc ∧ decode [0x1A#8] = .ok .ldAAtDe ∧
    decode [0x02#8] = .ok .ldAtBcA ∧ decode [0x12#8] = .ok .ldAtDeA ∧ decode [0xFA#8, lo, hi] = .ok (.ldAAtNn (hi ++ lo)) ∧
    decode [0xEA#8, lo, hi] = .ok (.ldAtNnA (hi ++ lo)) ∧ decode [0xF0#8, n] = .ok (.ldhAAtN n) ∧
    decode [0xE0#8, n] = .ok (.ldhAtNA n) ∧ decode [0xF2#8] = .ok .ldAAtC ∧ decode [0xE2#8] = .ok .ldAtCA ∧
    decode [0x2A#8] = .ok .ldAAtHlInc ∧ decode [0x3A#8] = .ok .ldAAtHlDec ∧ decode [0x22#8] = .ok .ldAtHlIncA ∧
    decode [0x32#8] = .ok .ldAtHlDecA := by
  and_intros <;> rfl

/-- R140 to R145. -/
theorem test_decode_word_loads (rr : Pair) (st : StackPair) (lo hi : Byte) :
    decode [0b00#2 ++ pairCode rr ++ 0b0001#4, lo, hi] = .ok (Instr.ldPair rr (hi ++ lo)) ∧
    decode [0x08#8, lo, hi] = .ok (.ldAtNnSp (hi ++ lo)) ∧ decode [0xF9#8] = .ok .ldSpHl ∧
    decode [0b11#2 ++ stackPairCode st ++ 0b0101#4] = .ok (Instr.push st) ∧
    decode [0b11#2 ++ stackPairCode st ++ 0b0001#4] = .ok (Instr.pop st) := by
  cases rr <;> cases st <;> exact ⟨rfl, rfl, rfl, rfl, rfl⟩

/-- R150 to R158. -/
theorem test_decode_alu (op : AluOp) (o : Operand8) (n : Byte) :
    decode [0b10#2 ++ aluCode op ++ operandCode o] = .ok (Instr.alu op o) ∧
    decode [0b11#2 ++ aluCode op ++ 0b110#3, n] = .ok (Instr.aluImm op n) := by
  cases o with
  | reg r => cases op <;> cases r <;> exact ⟨rfl, rfl⟩
  | atHl => cases op <;> exact ⟨rfl, rfl⟩

/-- R159 to R163 and R164 to R167. -/
theorem test_decode_inc_dec (o : Operand8) :
    decode [0b00#2 ++ operandCode o ++ 0b100#3] = .ok (Instr.inc8 o) ∧
    decode [0b00#2 ++ operandCode o ++ 0b101#3] = .ok (Instr.dec8 o) ∧
    decode [0x27#8] = .ok .daa ∧ decode [0x2F#8] = .ok .cplA ∧ decode [0x37#8] = .ok .scf ∧ decode [0x3F#8] = .ok .ccf := by
  cases o with
  | reg r => cases r <;> exact ⟨rfl, rfl, rfl, rfl, rfl, rfl⟩
  | atHl => exact ⟨rfl, rfl, rfl, rfl, rfl, rfl⟩

/-- R170 to R174. -/
theorem test_decode_word_arithmetic (rr : Pair) (e : Byte) :
    decode [0b00#2 ++ pairCode rr ++ 0b0011#4] = .ok (Instr.incPair rr) ∧
    decode [0b00#2 ++ pairCode rr ++ 0b1011#4] = .ok (Instr.decPair rr) ∧
    decode [0b00#2 ++ pairCode rr ++ 0b1001#4] = .ok (Instr.addHl rr) ∧
    decode [0xE8#8, e] = .ok (.addSpDisp e) ∧ decode [0xF8#8, e] = .ok (.ldHlSpDisp e) := by
  cases rr <;> exact ⟨rfl, rfl, rfl, rfl, rfl⟩

/-- R180 to R192. -/
theorem test_decode_shifts (op : ShiftOp) (o : Operand8) :
    decode [0xCB#8, 0b00#2 ++ shiftCode op ++ operandCode o] = .ok (Instr.cbShift op o) ∧
    decode [0x07#8] = .ok .rlca ∧ decode [0x0F#8] = .ok .rrca ∧ decode [0x17#8] = .ok .rla ∧ decode [0x1F#8] = .ok .rra := by
  cases o with
  | reg r => cases op <;> cases r <;> exact ⟨rfl, rfl, rfl, rfl, rfl⟩
  | atHl => cases op <;> exact ⟨rfl, rfl, rfl, rfl, rfl⟩

/-- R195 to R197: the bit number stands in the y field. -/
theorem test_decode_bits (o : Operand8) : ∀ k : Fin 8,
    decode [0xCB#8, 0b01#2 ++ BitVec.ofNat 3 k.val ++ operandCode o] = .ok (Instr.cbBit k o) ∧
    decode [0xCB#8, 0b10#2 ++ BitVec.ofNat 3 k.val ++ operandCode o] = .ok (Instr.cbRes k o) ∧
    decode [0xCB#8, 0b11#2 ++ BitVec.ofNat 3 k.val ++ operandCode o] = .ok (Instr.cbSet k o) := by
  intro k
  cases o with
  | reg r => cases r <;> fin_cases k <;> exact ⟨rfl, rfl, rfl⟩
  | atHl => fin_cases k <;> exact ⟨rfl, rfl, rfl⟩

/-- R201 to R211. -/
theorem test_decode_control (cc : Cond) (e lo hi : Byte) :
    decode [0xC3#8, lo, hi] = .ok (.jpNn (hi ++ lo)) ∧ decode [0xE9#8] = .ok .jpHl ∧ decode [0x18#8, e] = .ok (.jrDisp e) ∧
    decode [0b110#3 ++ condCode cc ++ 0b010#3, lo, hi] = .ok (Instr.jpCond cc (hi ++ lo)) ∧
    decode [0b001#3 ++ condCode cc ++ 0b000#3, e] = .ok (Instr.jrCond cc e) ∧
    decode [0xCD#8, lo, hi] = .ok (.callNn (hi ++ lo)) ∧
    decode [0b110#3 ++ condCode cc ++ 0b100#3, lo, hi] = .ok (Instr.callCond cc (hi ++ lo)) ∧
    decode [0xC9#8] = .ok .ret ∧ decode [0b110#3 ++ condCode cc ++ 0b000#3] = .ok (Instr.retCond cc) ∧
    decode [0xD9#8] = .ok .reti := by
  cases cc <;> and_intros <;> rfl

/-- R210 and R215 to R219. -/
theorem test_decode_system : (∀ y : Fin 8, decode [0b11#2 ++ BitVec.ofNat 3 y.val ++ 0b111#3] = .ok (Instr.rst y)) ∧
    decode [0x00#8] = .ok .nop ∧ decode [0x10#8] = .ok .stop ∧ decode [0xF3#8] = .ok .di ∧ decode [0xFB#8] = .ok .ei := by
  refine ⟨fun y => ?_, rfl, rfl, rfl, rfl⟩
  fin_cases y <;> rfl

/-- R113, the 11 bytes in the rule's order. -/
theorem test_decode_illegal :
    [0xD3#8, 0xDB#8, 0xDD#8, 0xE3#8, 0xE4#8, 0xEB#8, 0xEC#8, 0xED#8, 0xF4#8, 0xFC#8, 0xFD#8].map (fun op => (decode [op]).toOption)
      = [Instr.illegalD3, .illegalDB, .illegalDD, .illegalE3, .illegalE4, .illegalEB, .illegalEC, .illegalED, .illegalF4, .illegalFC,
          .illegalFD].map some := by rfl

/-- A table word lies with its first byte lowest; the bits the table does not give are 0 (assumption log 13). -/
theorem test_table_words :
    decodeTableWord 8 0xC3 = some (.jpNn 0x0000#16) ∧ decodeTableWord 16 0xCB37 = some .cbSwapA ∧
    decodeTableWord 8 0xCB = some .cbRlcB ∧ decodeTableWord 8 0xD3 = some .illegalD3 := by decide

/-! ## States for the tests (spec/95_test_vectors.md section 0) -/

/-- The base state S0 with code in work RAM from 0xC000. -/
def s0 (code : List Byte) : State :=
  let r := State.reset
  { r with
    cpu := { r.cpu with pc := 0xC000#16 }
    bus :=
      { r.bus with
        intFlag := 0x00#8
        wram := Memory.ofBytes code
        timer := { r.bus.timer with counter := 0x0000#16 }
        ppu := { r.bus.ppu with mode := .hBlank }
        cart := { r.bus.cart with rom := [(0x14D, 0xE7#8)] } } }

/-- S0 with A and F set. -/
def s0A (a f : Byte) (code : List Byte) : State :=
  { s0 code with cpu := { (s0 code).cpu with a := a, f := Flags.ofByte f } }

/-- S0 with HL set. -/
def s0Hl (hl : Word) (code : List Byte) : State := { s0 code with cpu := (s0 code).cpu.setHl hl }

/-- S0 with SP set. -/
def s0Sp (sp : Word) (code : List Byte) : State := { s0 code with cpu := { (s0 code).cpu with sp := sp } }

/-- S0 with the interrupt registers and IME set. -/
def s0Irq (ime : Bool) (intFlag intEnable : Byte) (code : List Byte) : State :=
  { s0 code with
    cpu := { (s0 code).cpu with ime := ime }
    bus := { (s0 code).bus with intFlag := intFlag, intEnable := intEnable } }

/-- The step ends in a next state with this property. -/
def goes (s : State) (p : State → Bool) : Bool :=
  match step s with
  | .next t => p t
  | _ => false

/-- The step ends in a fault or a refusal that leaves a state with this property. -/
def stops (s : State) (p : State → Bool) : Bool :=
  match step s with
  | .fault (.illegalOpcode _ _ t) => p t
  | .fault (.busFault _ _ t) => p t
  | .fault (.cartRamAbsent _ t) => p t
  | .fault (.dmaSource _ t) => p t
  | .refused (.unmodelled _ _ t) => p t
  | _ => false

/-- A, F and the step's result. -/
def aF (a f : Byte) (cycles : Nat) (t : State) : Bool := t.cpu.a == a && t.cpu.f.toByte == f && t.tally == cycles

/-- The byte a bus read gives. -/
def holds (t : State) (addr : Word) (v : Byte) : Bool :=
  match t.bus.read addr with
  | .ok w => w == v
  | .error _ => false

/-- A placed word is what the next step runs, from reset: INC A on A = 0x01, F = 0xB0 (R159). -/
theorem test_placed_word_runs : goes (State.reset.withFetchWord 8 0x3C) (aF 0x02#8 0x10#8 4) = true := by decide

/-! ## Vectors of spec/95_test_vectors.md (the ids are the file's; "derived from the rules, not from a run") -/

/-- L4: the address is taken before the destination is written. -/
theorem test_L4_ld_h_at_hl :
    goes { s0Hl 0xC010#16 [0x66#8] with bus := { (s0 [0x66#8]).bus with wram := [(0, 0x66#8), (0x10, 0xD0#8)] } }
      (fun t => t.cpu.hl == 0xD010#16 && t.tally == 8) = true := by decide

/-- L8: a store to ROM sets a latch. -/
theorem test_L8_ld_at_de_a :
    goes { s0 [0x12#8] with cpu := { (s0 []).cpu with d := 0x20#8, e := 0x00#8, a := 0x05#8 } }
      (fun t => t.bus.cart.bankLo == 5#5 && t.tally == 8) = true := by decide

/-- L9: LD A,(0xFF44) reads LY. -/
theorem test_L9_ld_a_at_nn :
    goes (s0 [0xFA#8, 0x44#8, 0xFF#8]) (fun t => t.cpu.a == 0x00#8 && t.cpu.pc == 0xC003#16 && t.tally == 16) = true := by decide

/-- L10: the fault leaves pc past the operand and the timer where it was. -/
theorem test_L10_unmapped_read :
    stops (s0 [0xFA#8, 0x01#8, 0xFF#8])
      (fun t => t.status == .faulted (.busFault 0xFF01#16 .read) && t.cpu.pc == 0xC003#16 && t.bus.timer.counter == 0#16) = true := by
  decide

/-- L12. -/
theorem test_L12_ldh_at_n_a :
    goes { s0 [0xE0#8, 0xFF#8] with cpu := { (s0 []).cpu with a := 0x04#8 } }
      (fun t => t.bus.intEnable == 0x04#8 && t.tally == 12) = true := by decide

/-- L15. -/
theorem test_L15_ld_at_c_a :
    goes { s0 [0xE2#8] with cpu := { (s0 []).cpu with c := 0x80#8 } } (fun t => holds t 0xFF80#16 0x01#8 && t.tally == 8) = true := by
  decide

/-- L17: HL wraps. -/
theorem test_L17_ld_at_hl_inc_a :
    goes { s0Hl 0xFFFF#16 [0x22#8] with cpu := { (s0Hl 0xFFFF#16 []).cpu with a := 0x1F#8 } }
      (fun t => t.bus.intEnable == 0x1F#8 && t.cpu.hl == 0x0000#16) = true := by decide

/-- L18. -/
theorem test_L18_ld_at_hl_dec_a :
    goes { s0Hl 0x0000#16 [0x32#8] with cpu := { (s0Hl 0x0000#16 []).cpu with a := 0x0A#8 } }
      (fun t => t.bus.cart.ramEn && t.cpu.hl == 0xFFFF#16) = true := by decide

/-- S16.2: the low byte at the lower address. -/
theorem test_S16_2_ld_at_nn_sp :
    goes (s0Sp 0xDFF0#16 [0x08#8, 0x00#8, 0xC1#8])
      (fun t => holds t 0xC100#16 0xF0#8 && holds t 0xC101#16 0xDF#8 && t.tally == 20) = true := by decide

/-- S16.8: the pop wraps from IE to ROM. -/
theorem test_S16_8_pop_bc :
    goes { s0Sp 0xFFFF#16 [0xC1#8] with bus := { (s0 [0xC1#8]).bus with intEnable := 0x34#8 } }
      (fun t => t.cpu.bc == 0x0034#16 && t.cpu.sp == 0x0001#16 && t.tally == 12) = true := by decide

/-- S16.9: the high byte is pushed first. -/
theorem test_S16_9_push_bc :
    goes { s0 [0xC5#8] with cpu := { (s0 []).cpu with sp := 0x0000#16, b := 0x12#8, c := 0x34#8 } }
      (fun t => t.bus.intEnable == 0x12#8 && holds t 0xFFFE#16 0x34#8 && t.cpu.sp == 0xFFFE#16) = true := by decide

/-- S16.6: the low nibble of F is dropped. -/
theorem test_S16_6_pop_af :
    goes { s0Sp 0xFFFC#16 [0xF1#8] with bus := { (s0 [0xF1#8]).bus with hram := [(0x7C, 0xFF#8), (0x7D, 0x12#8)] } }
      (fun t => aF 0x12#8 0xF0#8 12 t && t.cpu.sp == 0xFFFE#16) = true := by decide

/-- A1. -/
theorem test_A1_add_n : goes (s0A 0xFF#8 0x00#8 [0xC6#8, 0x01#8]) (aF 0x00#8 0xB0#8 8) = true := by decide

/-- A6. -/
theorem test_A6_adc_n : goes (s0A 0x00#8 0x10#8 [0xCE#8, 0xFF#8]) (aF 0x00#8 0xB0#8 8) = true := by decide

/-- A7. -/
theorem test_A7_sub_n : goes (s0A 0x10#8 0x00#8 [0xD6#8, 0x01#8]) (aF 0x0F#8 0x60#8 8) = true := by decide

/-- A11. -/
theorem test_A11_sbc_n : goes (s0A 0x00#8 0x10#8 [0xDE#8, 0xFF#8]) (aF 0x00#8 0xF0#8 8) = true := by decide

/-- A15. -/
theorem test_A15_and_n : goes (s0A 0x5A#8 0x10#8 [0xE6#8, 0xA5#8]) (aF 0x00#8 0xA0#8 8) = true := by decide

/-- A16. -/
theorem test_A16_xor_n : goes (s0A 0xFF#8 0x70#8 [0xEE#8, 0x0F#8]) (aF 0xF0#8 0x00#8 8) = true := by decide

/-- A18. -/
theorem test_A18_or_a : goes (s0A 0x00#8 0x70#8 [0xB7#8]) (aF 0x00#8 0x80#8 4) = true := by decide

/-- A19. -/
theorem test_A19_cp_n : goes (s0A 0x3C#8 0x00#8 [0xFE#8, 0x40#8]) (aF 0x3C#8 0x50#8 8) = true := by decide

/-- A24: C is kept. -/
theorem test_A24_dec_a : goes (s0A 0x00#8 0x10#8 [0x3D#8]) (aF 0xFF#8 0x70#8 4) = true := by decide

/-- A28. -/
theorem test_A28_daa : goes (s0A 0x9A#8 0x00#8 [0x27#8]) (aF 0x00#8 0x90#8 4) = true := by decide

/-- A29. -/
theorem test_A29_daa_after_sub : goes (s0A 0x00#8 0x70#8 [0x27#8]) (aF 0x9A#8 0x50#8 4) = true := by decide

/-- A32. -/
theorem test_A32_cpl : goes (s0A 0x35#8 0x90#8 [0x2F#8]) (aF 0xCA#8 0xF0#8 4) = true := by decide

/-- A33. -/
theorem test_A33_scf : goes (s0A 0x01#8 0xE0#8 [0x37#8]) (aF 0x01#8 0x90#8 4) = true := by decide

/-- A34. -/
theorem test_A34_ccf : goes (s0A 0x01#8 0x90#8 [0x3F#8]) (aF 0x01#8 0x80#8 4) = true := by decide

/-- A40: the write of a read-modify-write reaches a latch. -/
theorem test_A40_inc_at_hl :
    goes { s0Hl 0x2000#16 [0x34#8] with cpu := { (s0Hl 0x2000#16 []).cpu with f := Flags.ofByte 0xF0#8 } }
      (fun t => t.bus.cart.bankLo == 1#5 && t.cpu.f.toByte == 0x10#8 && t.tally == 12) = true := by decide

/-- W3: H out of bit 11, Z kept. -/
theorem test_W3_add_hl_bc :
    goes { s0 [0x09#8] with
        cpu := { (s0Hl 0x8A23#16 []).cpu with b := 0x06#8, c := 0x05#8, f := Flags.ofByte 0x80#8 } }
      (fun t => t.cpu.hl == 0x9028#16 && t.cpu.f.toByte == 0xA0#8 && t.tally == 4) = true := by decide

/-- W9: the carries of a negative displacement. -/
theorem test_W9_add_sp_e :
    goes (s0Sp 0x0001#16 [0xE8#8, 0xFF#8]) (fun t => t.cpu.sp == 0x0000#16 && t.cpu.f.toByte == 0x30#8 && t.tally == 8) = true := by
  decide

/-- W11. -/
theorem test_W11_ld_hl_sp_e :
    goes (s0Sp 0xFFF8#16 [0xF8#8, 0x02#8]) (fun t => t.cpu.hl == 0xFFFA#16 && t.cpu.f.toByte == 0x00#8) = true := by decide

/-- RS1. -/
theorem test_RS1_rlca : goes (s0A 0x85#8 0xB0#8 [0x07#8]) (aF 0x0B#8 0x10#8 4) = true := by decide

/-- RS3. -/
theorem test_RS3_rrca : goes (s0A 0x3B#8 0x00#8 [0x0F#8]) (aF 0x9D#8 0x10#8 4) = true := by decide

/-- RS4. -/
theorem test_RS4_rla : goes (s0A 0x95#8 0x10#8 [0x17#8]) (aF 0x2B#8 0x10#8 4) = true := by decide

/-- RS5: Z is 0 although A is 0. -/
theorem test_RS5_rra : goes (s0A 0x01#8 0x00#8 [0x1F#8]) (aF 0x00#8 0x10#8 4) = true := by decide

/-- RS9: Z follows the result of the extended form. -/
theorem test_RS9_rr_a : goes (s0A 0x01#8 0x00#8 [0xCB#8, 0x1F#8]) (aF 0x00#8 0x90#8 8) = true := by decide

/-- RS11. -/
theorem test_RS11_sra_a : goes (s0A 0x8A#8 0xB0#8 [0xCB#8, 0x2F#8]) (aF 0xC5#8 0x00#8 8) = true := by decide

/-- RS13. -/
theorem test_RS13_swap_a : goes (s0A 0xF0#8 0xB0#8 [0xCB#8, 0x37#8]) (aF 0x0F#8 0x00#8 8) = true := by decide

/-- RS15. -/
theorem test_RS15_srl_at_hl :
    goes { s0Hl 0xC100#16 [] with bus := { (s0 []).bus with wram := [(0, 0xCB#8), (1, 0x3E#8), (0x100, 0xFF#8)] } }
      (fun t => holds t 0xC100#16 0x7F#8 && t.cpu.f.toByte == 0x10#8 && t.tally == 16) = true := by decide

/-- B3. -/
theorem test_B3_bit_0_a : goes (s0A 0x80#8 0x10#8 [0xCB#8, 0x47#8]) (aF 0x80#8 0xB0#8 8) = true := by decide

/-- B5. -/
theorem test_B5_res_3_b :
    goes { s0 [0xCB#8, 0x98#8] with cpu := { (s0 []).cpu with b := 0xFF#8 } }
      (fun t => t.cpu.b == 0xF7#8 && t.cpu.f.toByte == 0xB0#8 && t.tally == 8) = true := by decide

/-- B6. -/
theorem test_B6_set_0_at_hl :
    goes (s0Hl 0xFFFF#16 [0xCB#8, 0xC6#8]) (fun t => t.bus.intEnable == 0x01#8 && t.tally == 16) = true := by decide

/-- C6, from 0xC000: the most negative displacement. -/
theorem test_C6_jr : goes (s0 [0x18#8, 0x80#8]) (fun t => t.cpu.pc == 0xBF82#16 && t.tally == 8) = true := by decide

/-- C2 under `Hardware`. -/
theorem test_C2_jp_c :
    goes { s0 [0xDA#8, 0x00#8, 0x02#8] with
        bus := { (s0 [0xDA#8, 0x00#8, 0x02#8]).bus with params := { Params.default with timing := .hardware } } }
      (fun t => t.cpu.pc == 0x0200#16 && t.tally == 16) = true := by decide

/-- C12: the pushed address, the wrap of SP and the cycles under `Access`. -/
theorem test_C12_call :
    goes (s0Sp 0x0000#16 [0xCD#8, 0x00#8, 0x02#8])
      (fun t => t.bus.intEnable == 0xC0#8 && holds t 0xFFFE#16 0x03#8 && t.cpu.sp == 0xFFFE#16 && t.cpu.pc == 0x0200#16
        && t.tally == 20) = true := by decide

/-- C14. -/
theorem test_C14_ret_nz_not_taken :
    goes (s0A 0x01#8 0x80#8 [0xC0#8]) (fun t => t.cpu.pc == 0xC001#16 && t.cpu.sp == 0xFFFE#16 && t.tally == 4) = true := by decide

/-- C18: a gated fetch reads 0xFF, which is RST 38h. -/
theorem test_C18_gated_fetch :
    goes { s0 [] with
        cpu := { (s0 []).cpu with pc := 0x8000#16 }
        bus := { (s0 []).bus with ppu := { (s0 []).bus.ppu with mode := .pixelTransfer } } }
      (fun t => holds t 0xFFFD#16 0x80#8 && holds t 0xFFFC#16 0x01#8 && t.cpu.pc == 0x0038#16) = true := by decide

/-- Y4: halted and woken in one step. -/
theorem test_Y4_halt_woken :
    goes (s0Irq true 0x04#8 0x04#8 [0x76#8])
      (fun t => t.cpu.pc == 0x0050#16 && holds t 0xFFFC#16 0x01#8 && t.bus.intFlag == 0x00#8 && !t.cpu.ime && !t.cpu.halted
        && t.tally == 20) = true := by decide

/-- Y7: EI serviced in its own step. -/
theorem test_Y7_ei :
    goes (s0Irq false 0x01#8 0x01#8 [0xFB#8])
      (fun t => t.cpu.pc == 0x0040#16 && !t.cpu.ime && t.bus.intFlag == 0x00#8 && t.tally == 20) = true := by decide

/-- Y8, the EI: with `EI_DELAY` nothing is serviced yet. -/
theorem test_Y8_ei_delayed :
    goes { s0Irq false 0x01#8 0x01#8 [0xFB#8] with
        bus := { (s0Irq false 0x01#8 0x01#8 [0xFB#8]).bus with params := { Params.default with eiDelay := true } } }
      (fun t => !t.cpu.ime && t.cpu.eiPending == 1#2 && t.cpu.pc == 0xC001#16 && t.tally == 4) = true := by decide

/-- Y5. -/
theorem test_Y5_stop :
    stops (s0 [0x10#8, 0x00#8]) (fun t => t.status == .unmodelled 0xC000#16 0x10#8 && t.cpu.pc == 0xC001#16) = true := by decide

/-- Y11. -/
theorem test_Y11_illegal :
    stops (s0 [0xD3#8])
      (fun t => t.status == .faulted (.illegalOpcode 0xC000#16 0xD3#8) && t.cpu.pc == 0xC001#16
        && t.bus.timer.counter == 0x0000#16) = true := by decide

/-- I2: the lowest pending bit is serviced. -/
theorem test_I2_priority :
    goes (s0Irq true 0x14#8 0x1F#8 [0x00#8]) (fun t => t.cpu.pc == 0x0050#16 && t.bus.intFlag == 0x10#8 && t.tally == 20) = true := by
  decide

/-- I9: the push of the service may write IE itself. -/
theorem test_I9_service_push_to_ie :
    goes { s0Irq true 0x01#8 0x01#8 [0x00#8] with cpu := { (s0Irq true 0x01#8 0x01#8 []).cpu with sp := 0x0001#16 } }
      (fun t => t.cpu.pc == 0x0040#16 && t.cpu.sp == 0xFFFF#16 && t.bus.intEnable == 0x01#8) = true := by decide

/-- I11: a timer overflow serviced in the step that makes it, and one more edge in the service's update. -/
theorem test_I11_timer_interrupt :
    goes { s0Irq true 0x00#8 0x04#8 [0x00#8] with
        bus := { (s0Irq true 0x00#8 0x04#8 [0x00#8]).bus with
          timer := { counter := 0x000C#16, tima := 0xFF#8, tma := 0x00#8, tac := 0b101#3, req := false } } }
      (fun t => t.cpu.pc == 0x0050#16 && t.bus.intFlag == 0x00#8 && t.bus.timer.tima == 0x01#8 && t.bus.timer.counter == 0x0020#16)
      = true := by decide

/-- K5: both groups of keys are ANDed. -/
theorem test_K5_p1 : Input.readP1 { sel := 0b00#2, keys := 0x7E#8, req := false } = 0xC6#8 := by decide

/-- T5: edges across the counter's wrap. -/
theorem test_T5_edges_across_the_wrap :
    (Timer.advance 0x20 { counter := 0xFFF0#16, tima := 0x00#8, tma := 0x00#8, tac := 0b101#3, req := false }).tima = 0x02#8 := by
  decide

/-- T6: the reload inside a run of edges. -/
theorem test_T6_reload :
    Timer.advance 48 { counter := 0x0000#16, tima := 0xFE#8, tma := 0x10#8, tac := 0b101#3, req := false }
      = { counter := 0x0030#16, tima := 0x11#8, tma := 0x10#8, tac := 0b101#3, req := true } := by decide

/-- V4: the coincidence on a new line. -/
theorem test_V4_coincidence :
    (fun p : Ppu => (p.mode, p.clock, p.ly, p.coin, p.reqStat, p.readStat))
      (Ppu.advance true 456 { (s0 []).bus.ppu with mode := .oamSearch, lyc := 0x01#8, statEn := 0b1000#4 })
      = (.oamSearch, 0, 1, true, true, 0xC6#8) := by decide

/-- V5: the V-Blank and STAT requests at line 144. -/
theorem test_V5_vblank :
    (fun p : Ppu => (p.mode, p.clock, p.ly, p.reqVblank, p.reqStat))
      (Ppu.advance true 4 { (s0 []).bus.ppu with clock := 200, ly := 143, statEn := 0b0010#4 })
      = (.vBlank, 0, 144, true, true) := by decide

/-- E5.10: request 0x20 is remapped to 0x21. -/
theorem test_E5_10_remap :
    Cart.romBank { (s0 []).bus.cart with romCode := 5, bankHi := 1#2 } = 0x21 := by decide

/-- X6: the RAM offset wraps modulo the size. -/
theorem test_X6_ram_wraps :
    Cart.ramOffset 0x800 { (s0 []).bus.cart with ramSize := .kib2 } = 0 := by decide

/-! ## Witnesses: for each statement with hypotheses, concrete values that meet them -/

/-- S0 with the PPU in this mode and the bus policy given. -/
def sBus (policy : BusPolicy) (mode : PpuMode) : State :=
  { s0 [] with
    bus := { (s0 []).bus with
      params := { Params.default with busPolicy := policy }
      ppu := { (s0 []).bus.ppu with mode := mode } } }

/-- That state with HL set. -/
def sHl (policy : BusPolicy) (hl : Word) : State :=
  { sBus policy .hBlank with cpu := (sBus policy .hBlank).cpu.setHl hl }

/-- That state with SP set. -/
def sSp (policy : BusPolicy) (sp : Word) : State :=
  { sBus policy .hBlank with cpu := { (sBus policy .hBlank).cpu with sp := sp } }

/-- The reset state with an empty boot image. -/
def sBoot : State := State.atReset { Launch.empty with bootImage := some [] }

/-- A write ends in this fault. -/
def refuses (b : Bus) (addr : Word) (v : Byte) (kind : FaultKind) : Bool :=
  match b.write addr v with
  | .ok _ => false
  | .error k => k == kind

/-- A read that gives a byte, from its test. -/
theorem read_of_holds {t : State} {addr : Word} {v : Byte} (h : holds t addr v = true) : t.bus.read addr = .ok v := by
  unfold holds at h
  split at h
  · simp_all
  · exact absurd h (by decide)

/-- Witness for RegisterPairsAreViews: registers outside a pair, and a stack pair other than AF. -/
theorem test_witness_pairs :
    Part.reg .a ∉ pairParts .bc ∧ Part.reg .b ∉ stackPairParts .af ∧ StackPair.bc ≠ .af := by decide

/-- Witnesses for LoadsFromMemory, for the memory forms of ArithmeticAndLogic and SingleBitInstructions, and for the read clauses of
SteppingLoadsAndStores: a read that completes and one that faults, at HL and at both ends of the I/O page. -/
theorem test_witness_reads :
    (sHl .strict 0xC000#16).bus.read (sHl .strict 0xC000#16).cpu.hl = .ok 0x00#8 ∧
    (sHl .strict 0xFEA0#16).bus.read (sHl .strict 0xFEA0#16).cpu.hl = .error (.busFault 0xFEA0#16 .read) ∧
    (s0 []).bus.read (s0 []).cpu.bc = .ok 0x00#8 ∧ (s0 []).bus.read (s0 []).cpu.de = .ok 0x00#8 ∧
    (s0 []).bus.read (0xFF00#16 + (0x00#8).setWidth 16) = .ok 0xCF#8 ∧
    (s0 []).bus.read (0xFF00#16 + (0x01#8).setWidth 16) = .error (.busFault 0xFF01#16 .read) ∧
    (s0 []).bus.read (0xFF00#16 + (0xFF#8).setWidth 16) = .ok 0x00#8 := ⟨rfl, rfl, rfl, rfl, rfl, rfl, rfl⟩

/-- Witnesses for the same statements' read faults through BC, DE and C. -/
theorem test_witness_pair_read_faults :
    (∃ s : State, s.bus.read s.cpu.bc = .error (.busFault 0xFEFF#16 .read)) ∧
    (∃ s : State, s.bus.read s.cpu.de = .error (.busFault 0xFEA0#16 .read)) ∧
    (∃ s : State, s.bus.read (0xFF00#16 + s.cpu.c.setWidth 16) = .error (.busFault 0xFF7F#16 .read)) :=
  ⟨⟨{ s0 [] with cpu := { (s0 []).cpu with b := 0xFE#8, c := 0xFF#8 } }, rfl⟩,
   ⟨{ s0 [] with cpu := { (s0 []).cpu with d := 0xFE#8, e := 0xA0#8 } }, rfl⟩,
   ⟨{ s0 [] with cpu := { (s0 []).cpu with c := 0x7F#8 } }, rfl⟩⟩

/-- Witnesses for StoresToMemory and the write clauses of SteppingLoadsAndStores. -/
theorem test_witness_writes :
    (∃ b, (sHl .strict 0xC000#16).bus.write (sHl .strict 0xC000#16).cpu.hl 0x12#8 = .ok b) ∧
    (sHl .strict 0xFEFF#16).bus.write (sHl .strict 0xFEFF#16).cpu.hl 0x12#8 = .error (.busFault 0xFEFF#16 .write) ∧
    (∃ b, (s0 []).bus.write (s0 []).cpu.bc 0x01#8 = .ok b) ∧ (∃ b, (s0 []).bus.write (s0 []).cpu.de 0x01#8 = .ok b) ∧
    (∃ b, (s0 []).bus.write (0xFF00#16 + (0xFF#8).setWidth 16) 0x01#8 = .ok b) ∧
    (s0 []).bus.write (0xFF00#16 + (0x46#8).setWidth 16) 0x01#8 = .error (.dmaSource 0x01#8) :=
  ⟨⟨_, rfl⟩, rfl, ⟨_, rfl⟩, ⟨_, rfl⟩, ⟨_, rfl⟩, rfl⟩

/-- Witnesses for SteppingLoadsAndStores: its two lists of forms. -/
theorem test_witness_stepping_forms :
    (Instr.ldAAtHlDec, 0xFFFF#16) ∈ [(Instr.ldAAtHlInc, 1#16), (Instr.ldAAtHlDec, 0xFFFF#16)] ∧
    (Instr.ldAtHlDecA, 0xFFFF#16) ∈ [(Instr.ldAtHlIncA, 1#16), (Instr.ldAtHlDecA, 0xFFFF#16)] := by decide

/-- Witnesses for StackPointerStore: both writes, a fault of the first, a fault of the second at the end of OAM. -/
theorem test_witness_stack_pointer_store :
    (∃ b b', (s0 []).bus.write 0xFFFF#16 0xFE#8 = .ok b ∧ b.write (0xFFFF#16 + 1#16) 0xFF#8 = .ok b') ∧
    (s0 []).bus.write 0xFEA0#16 0xFE#8 = .error (.busFault 0xFEA0#16 .write) ∧
    (∃ b, (s0 []).bus.write 0xFE9F#16 0xFE#8 = .ok b ∧ b.write (0xFE9F#16 + 1#16) 0xFF#8 = .error (.busFault 0xFEA0#16 .write)) :=
  ⟨⟨_, _, rfl, rfl⟩, rfl, ⟨_, rfl, rfl⟩⟩

/-- Witnesses for the push clauses of PushStoresThePair and CallsAndRestarts. -/
theorem test_witness_pushes :
    (∃ b b', (s0 []).bus.write (0x0000#16 - 1#16) 0x12#8 = .ok b ∧ b.write (0x0000#16 - 2#16) 0x34#8 = .ok b') ∧
    (s0 []).bus.write (0xFF00#16 - 1#16) 0x12#8 = .error (.busFault 0xFEFF#16 .write) ∧
    (∃ b, (s0 []).bus.write (0xFF01#16 - 1#16) 0x12#8 = .ok b ∧ b.write (0xFF01#16 - 2#16) 0x34#8 = .error (.busFault 0xFEFF#16 .write)) :=
  ⟨⟨_, _, rfl, rfl⟩, rfl, ⟨_, rfl, rfl⟩⟩

/-- Witnesses for the pop clauses of PopLoadsThePair and Returns. -/
theorem test_witness_pops :
    (∃ lo hi, (sSp .strict 0xFFFF#16).bus.read 0xFFFF#16 = .ok lo ∧ (sSp .strict 0xFFFF#16).bus.read (0xFFFF#16 + 1#16) = .ok hi) ∧
    (sSp .strict 0xFEA0#16).bus.read 0xFEA0#16 = .error (.busFault 0xFEA0#16 .read) ∧
    (∃ lo, (sSp .strict 0xFF00#16).bus.read 0xFF00#16 = .ok lo ∧
      (sSp .strict 0xFF00#16).bus.read (0xFF00#16 + 1#16) = .error (.busFault 0xFF01#16 .read)) :=
  ⟨⟨_, _, rfl, rfl⟩, rfl, ⟨_, rfl, rfl⟩⟩

/-- Witness for EightBitLaws: every operation falls under one of its laws. -/
theorem test_witness_alu_laws :
    (AluOp.adc = .add ∨ AluOp.adc = .adc) ∧ (AluOp.cp = .sub ∨ AluOp.cp = .sbc ∨ AluOp.cp = .cp) ∧ AluOp.xor ≠ .cp := by decide

/-- Witnesses for the memory forms of IncrementAndDecrement, ExtendedShifts and SingleBitInstructions: read and written, not read,
read but not written (the write of a page outside 0x80 to 0xDF to 0xFF46, which reads 0xFF under `Lenient`). -/
theorem test_witness_read_modify_write :
    (∃ b, (sHl .strict 0xFFFF#16).bus.read 0xFFFF#16 = .ok 0x00#8 ∧ (sHl .strict 0xFFFF#16).bus.write 0xFFFF#16 0x01#8 = .ok b) ∧
    (sHl .strict 0xFF46#16).bus.read 0xFF46#16 = .error (.busFault 0xFF46#16 .read) ∧
    (sHl .lenient 0xFF46#16).bus.read 0xFF46#16 = .ok 0xFF#8 ∧
    ([BitVec.ofNat 8 ((0xFF#8).toNat + 1), BitVec.ofNat 8 ((0xFF#8).toNat + 255), shifted .rlc false 0xFF#8,
        shifted .rrc false 0xFF#8, shifted .rl false 0xFF#8, shifted .rr false 0xFF#8, shifted .sla false 0xFF#8,
        shifted .sra false 0xFF#8, shifted .swap false 0xFF#8, shifted .srl false 0xFF#8, resBit 7 0xFF#8, setBit 0 0xFF#8].all
      fun v => refuses (sHl .lenient 0xFF46#16).bus 0xFF46#16 v (.dmaSource v)) = true :=
  ⟨⟨_, rfl, rfl⟩, rfl, rfl, by decide⟩

/-- Witnesses for DecimalAdjustIsDecimal at both ends, and for AccumulatorRotates and PrefixRowRunsTheExtendedRow. -/
theorem test_witness_small_ranges :
    (0 < 100 ∧ 99 < 100) ∧
    (Instr.rra, ShiftOp.rr, 0x1F#8) ∈ [(Instr.rlca, ShiftOp.rlc, 0x07#8), (.rrca, .rrc, 0x0F#8), (.rla, .rl, 0x17#8), (.rra, .rr, 0x1F#8)] ∧
    (0x00#8).toNat % 8 ≠ 6 ∧ (0xFF#8).toNat % 8 ≠ 6 := by decide

/-- Witnesses for CallsAndRestarts and Returns: every condition holds of some flags and fails of others. -/
theorem test_witness_conditions (cc : Cond) : (∃ f, condHolds cc f = true) ∧ ∃ f, condHolds cc f = false := by
  cases cc
  · exact ⟨⟨⟨false, false, false, false⟩, rfl⟩, ⟨⟨true, false, false, true⟩, rfl⟩⟩
  · exact ⟨⟨⟨true, false, false, true⟩, rfl⟩, ⟨⟨false, false, false, false⟩, rfl⟩⟩
  · exact ⟨⟨⟨false, false, false, false⟩, rfl⟩, ⟨⟨true, false, false, true⟩, rfl⟩⟩
  · exact ⟨⟨⟨true, false, false, true⟩, rfl⟩, ⟨⟨false, false, false, false⟩, rfl⟩⟩

/-- Witness for StopAndIllegalBytesStop. -/
theorem test_witness_illegal :
    0xFD#8 ∈ [0xD3#8, 0xDB#8, 0xDD#8, 0xE3#8, 0xE4#8, 0xEB#8, 0xEC#8, 0xED#8, 0xF4#8, 0xFC#8, 0xFD#8] := by decide

/-- Witness for FlagsFollowTheOpcodeTable and CyclesFollowTheOpcodeTable, whose tally is the fetch's. -/
theorem test_witness_table_columns :
    ∃ t, Instr.addAA.wellFormed = true ∧ exec .addAA { s0 [] with tally := 4 } = .next t ∧
      ({ s0 [] with tally := 4 } : State).tally = 4 * fetchedLength .addAA := ⟨_, rfl, rfl, rfl⟩

/-- Witness for BusChangesOnlyByStores and UndisturbedAddressesKeepTheirByte: a store, an address it leaves alone. -/
theorem test_witness_store_frame :
    ∃ t, exec .ldAtHlA (sHl .strict 0xC000#16) = .next t ∧
      ∀ w, w ∈ storeAddrs .ldAtHlA (sHl .strict 0xC000#16) → disturbs (sHl .strict 0xC000#16).bus w 0xC001#16 = false := by
  refine ⟨_, rfl, ?_⟩
  intro w hw
  fin_cases hw
  rfl

/-- Witnesses for OnlyTheirOwnInstructionsWriteTheLatches: EI changes IME, HALT `halted`, and a state with the latch set. -/
theorem test_witness_latches :
    (∃ t, exec .ei (s0 []) = .next t ∧ (t.cpu.ime ≠ (s0 []).cpu.ime ∨ t.cpu.eiPending ≠ (s0 []).cpu.eiPending)) ∧
    (∃ t, exec .halt (s0Irq true 0x00#8 0x00#8 []) = .next t ∧ t.cpu.halted ≠ (s0Irq true 0x00#8 0x00#8 []).cpu.halted) ∧
    (∃ t, exec .nop sBoot = .next t ∧ t.bus.booting = true) :=
  ⟨⟨_, rfl, .inl (by decide)⟩, ⟨_, rfl, by decide⟩, ⟨_, rfl, rfl⟩⟩

/-- Witnesses for DecodeReadsBackEncode and EncodeGivesBackTheBytes. -/
theorem test_witness_round_trips : Instr.cbSwapA.wellFormed = true ∧ decode [0x10#8, 0x55#8] = .ok .stop := ⟨rfl, rfl⟩

/-- Witnesses for UnmappedAccessPolicy and MappedAccessesComplete: the ends of every unmapped range, and the addresses beside them. -/
theorem test_witness_unmapped_ranges :
    (∀ a, a ∈ [0xFEA0#16, 0xFEFF#16, 0xFF01#16, 0xFF03#16, 0xFF08#16, 0xFF0E#16, 0xFF10#16, 0xFF3F#16, 0xFF4C#16, 0xFF4F#16,
        0xFF51#16, 0xFF7F#16] → Unmapped a ∧ UnreadableAddr a ∧ route a = .unmapped) ∧
    (∀ a, a ∈ [0xFE9F#16, 0xFF00#16, 0xFF04#16, 0xFF07#16, 0xFF0F#16, 0xFF40#16, 0xFF46#16, 0xFF4B#16, 0xFF50#16, 0xFF80#16] →
      ¬ Unmapped a ∧ route a ≠ .unmapped) ∧
    UnreadableAddr 0xFF46#16 ∧ UnreadableAddr 0xFF50#16 ∧ ¬ UnreadableAddr 0xFF45#16 := by
  refine ⟨fun a ha => ?_, fun a ha => ?_, ?_⟩
  · fin_cases ha <;> exact ⟨by unfold Unmapped; simp, by unfold UnreadableAddr Unmapped; simp, by simp [route, routeIo]⟩
  · fin_cases ha <;> exact ⟨by unfold Unmapped; simp, by simp [route, routeIo]⟩
  · unfold UnreadableAddr Unmapped
    simp

/-- Witnesses for UnmappedAccessPolicy: both policies, and a fault in each direction. -/
theorem test_witness_bus_policies :
    (sBus .strict .hBlank).bus.params.busPolicy = .strict ∧ (sBus .lenient .hBlank).bus.params.busPolicy = .lenient ∧
    (sBus .strict .hBlank).bus.read 0xFF50#16 = .error (.busFault 0xFF50#16 .read) ∧
    (sBus .strict .hBlank).bus.write 0xFF7F#16 0x00#8 = .error (.busFault 0xFF7F#16 .write) := ⟨rfl, rfl, rfl, rfl⟩

/-- Witnesses for RamHoldsWhatWasWritten, VideoMemoryGates, BankingLatchWrites, RomWindows and ExternalRamWindow: both ends of every
window, and no address in two of them. -/
theorem test_witness_windows :
    [0x0000#16, 0x1FFF#16, 0x2000#16, 0x3FFF#16].map route = [.romFixed 0, .romFixed 0x1FFF, .romFixed 0x2000, .romFixed 0x3FFF] ∧
    [0x4000#16, 0x5FFF#16, 0x6000#16, 0x7FFF#16].map route
      = [.romSwitched 0, .romSwitched 0x1FFF, .romSwitched 0x2000, .romSwitched 0x3FFF] ∧
    [0x8000#16, 0x9FFF#16, 0xA000#16, 0xBFFF#16].map route = [.vram 0, .vram 0x1FFF, .eram 0, .eram 0x1FFF] ∧
    [0xC000#16, 0xDDFF#16, 0xDE00#16, 0xDFFF#16].map route = [.wram 0, .wram 0x1DFF, .wram 0x1E00, .wram 0x1FFF] ∧
    [0xE000#16, 0xFDFF#16, 0xFE00#16, 0xFE9F#16].map route = [.wram 0, .wram 0x1DFF, .oam 0, .oam 0x9F] ∧
    [0xFF80#16, 0xFFFE#16, 0xFFFF#16].map route = [.hram 0, .hram 0x7E, .intEnable] := by decide

/-- Witnesses for VideoMemoryGates, PpuTransitions and OamDmaCopies: the gates in each mode. -/
theorem test_witness_gates :
    [PpuMode.hBlank, .vBlank, .oamSearch, .pixelTransfer].map (fun m => ((sBus .strict m).bus.ppu.vramOpen, (sBus .strict m).bus.ppu.oamOpen))
      = [(true, true), (true, true), (true, false), (false, false)] := by decide

/-- Witnesses for ExternalRamWindow and for the absent RAM of MappedAccessesComplete and OamDmaCopies: closed, open with no RAM, open
with RAM. -/
theorem test_witness_external_ram :
    (s0 []).bus.cart.ramEn = false ∧
    (∃ b : Bus, CartRamAbsent b 0xA000#16 ∧ CartRamAbsent b (wordOf 0xBF#8 0x00#8)) ∧
    (∃ b : Bus, b.cart.ramEn = true ∧ b.cart.ramSize.bytes ≠ 0 ∧ ¬ CartRamAbsent b 0xA000#16) := by
  refine ⟨rfl, ⟨{ (s0 []).bus with cart := { (s0 []).bus.cart with ramEn := true } }, ?_⟩,
    ⟨{ (s0 []).bus with cart := { (s0 []).bus.cart with ramEn := true, ramSize := .kib2 } }, ?_⟩⟩ <;>
    (unfold CartRamAbsent; decide)

/-- Witnesses for OamDmaCopies: the pages on both sides of the bounds, with the source readable. -/
theorem test_witness_dma_pages :
    ((0x7F#8).toNat < 0x80 ∧ 0xDF < (0xE0#8).toNat) ∧ (0x80 ≤ (0x80#8).toNat ∧ (0xDF#8).toNat ≤ 0xDF) ∧
    ¬ CartRamAbsent (s0 []).bus (wordOf 0x80#8 0x00#8) ∧ ¬ CartRamAbsent (s0 []).bus (wordOf 0xDF#8 0x00#8) := by
  unfold CartRamAbsent
  decide

/-- BT5, and a witness for the write clause of BootLatch: while booting, a write to 0x0000 reaches the RAM-enable latch. -/
theorem test_BT5_write_while_booting :
    (match sBoot.bus.write 0x0000#16 0x0A#8 with
      | .ok b => b.cart.ramEn && b.booting
      | .error _ => false) = true ∧ 0x0000#16 ≠ 0xFF50#16 := by decide

/-- Witnesses for RomWindows and BootLatch: booting and not, below and at 0x0100; a step that ends with the latch set. -/
theorem test_witness_boot :
    sBoot.bus.booting = true ∧ (s0 []).bus.booting = false ∧ (0x00FF#16).toNat < 0x100 ∧ 0x100 ≤ (0x0100#16).toNat ∧
    ∃ t, step sBoot = .next t ∧ t.bus.booting = true := ⟨rfl, rfl, by decide, by decide, _, rfl, rfl⟩

/-- Witnesses for the stopped clauses of PpuTransitions: gated off, switched on, not gated. -/
theorem test_witness_stopped :
    (State.reset.bus.ppu.writeLcdc true 0x11#8).lcdc.getLsbD 7 = false ∧ ¬ State.reset.bus.ppu.lcdc.getLsbD 7 = false ∧
    ¬ (false = true ∧ (0x11#8).getLsbD 7 = false) := by decide

/-- V7: switched off, the PPU stands on line 0 whatever time passes. -/
theorem test_V7_lcd_off :
    (fun p : Ppu => (p.mode, p.clock, p.ly, p.coin))
      (Ppu.advance true 1000 (Ppu.writeLcdc true 0x11#8 { (s0 []).bus.ppu with mode := .pixelTransfer, clock := 10, ly := 5 }))
      = (.hBlank, 0, 0, true) := by decide

/-- Witnesses for PpuKeepsFrameTime and PpuTransitions: a running PPU, inside each mode and at its last cycle, on the lines where the
transition turns. -/
theorem test_witness_ppu :
    PpuOk true State.reset.bus.ppu ∧ State.reset.bus.ppu.stopped true = false ∧
    (∀ m : PpuMode, 0 + 1 < m.duration ∧ m.duration - 1 + 1 = m.duration) ∧
    PpuOk true { State.reset.bus.ppu with mode := .hBlank, clock := 203, ly := 143, coin := false } ∧
    PpuOk true { State.reset.bus.ppu with mode := .vBlank, clock := 455, ly := 153, coin := false } := by
  have h (m : PpuMode) (clock ly : Nat) (coin : Bool) (h1 : clock < m.duration) (h2 : LineFits m ly) (h3 : coin = (ly == 0)) :
      PpuOk true { State.reset.bus.ppu with mode := m, clock := clock, ly := ly, coin := coin } :=
    ⟨h1, h2, h3, fun h => absurd (show (true && !(0x91#8 : Byte).getLsbD 7) = true from h) (by decide)⟩
  refine ⟨h .oamSearch 0 0 true (by decide) (by simp [LineFits]) rfl, rfl, ?_,
    h .hBlank 203 143 false (by decide) (by simp [LineFits]) rfl,
    h .vBlank 455 153 false (by decide) (by simp [LineFits]) rfl⟩
  intro m
  cases m <;> decide

/-- Witnesses for UpdateTakesTheRequests and KeysAndTheirRegister: the bounds of the bit numbers, a key up and a key down. -/
theorem test_witness_keys :
    0 < 8 ∧ 7 < 8 ∧ (s0 []).bus.input.keys.getLsbD Key.start.bit = true ∧
    ((s0 []).keyDown .start).bus.input.keys.getLsbD Key.start.bit = false := by decide

/-- A state about to fetch at `pc`, with the prefix byte in IF. -/
def sFetch (pc : Word) : State :=
  { s0 [] with cpu := { (s0 []).cpu with pc := pc }, bus := { (s0 []).bus with intFlag := 0xCB#8 } }

/-- The bus a step reads operand bytes from, for the witnesses below. -/
def latchedBus (s : State) : Bus := { s.bus with booting := s.bus.booting && decide (s.cpu.pc.toNat < 0x100) }

/-- Witness for StepRunsTheDecodedInstruction: two bytes that decode. -/
theorem test_witness_step_decoded :
    ∃ (s : State) (bytes : List Byte), s.status = .running ∧ s.cpu.halted = false ∧
      (∀ k (h : k < bytes.length), (latchedBus s).read (s.cpu.pc + BitVec.ofNat 16 k) = .ok bytes[k]) ∧
      ∃ i, decode bytes = .ok i ∧ bytes.length = fetchedLength i := by
  refine ⟨s0 [0xCB#8, 0x37#8], [0xCB#8, 0x37#8], rfl, rfl, fun k h => ?_, .cbSwapA, rfl, rfl⟩
  match k, h with
  | 0, _ => exact read_of_holds (t := { s0 [] with bus := latchedBus (s0 [0xCB#8, 0x37#8]) }) (addr := 0xC000#16) (v := 0xCB#8) (by decide)
  | 1, _ => exact read_of_holds (t := { s0 [] with bus := latchedBus (s0 [0xCB#8, 0x37#8]) }) (addr := 0xC001#16) (v := 0x37#8) (by decide)

/-- Witnesses for StepRunsTheDecodedInstruction: no byte read yet, and one byte read, with the next unreadable. -/
theorem test_witness_step_unreadable :
    decode [] = .error .noBytes ∧ (latchedBus (sFetch 0xFEA0#16)).read 0xFEA0#16 = .error (.busFault 0xFEA0#16 .read) ∧
    decode [0xCB#8] = .error (.missingOperand 0xCB#8) ∧ (latchedBus (sFetch 0xFF0F#16)).read 0xFF0F#16 = .ok 0xCB#8 ∧
    (latchedBus (sFetch 0xFF0F#16)).read (0xFF0F#16 + 1#16) = .error (.busFault 0xFF10#16 .read) ∧
    (sFetch 0xFF0F#16).status = .running ∧ (sFetch 0xFF0F#16).cpu.halted = false :=
  ⟨rfl, rfl, rfl, rfl, rfl, rfl, rfl⟩

/-- A halted state with these interrupt registers. -/
def sHalted (ime : Bool) (intFlag : Byte) : State :=
  { s0Irq ime intFlag 0x01#8 [] with cpu := { (s0Irq ime intFlag 0x01#8 []).cpu with halted := true } }

/-- Witnesses for HaltedStepTicksThenPolls: IME clear with a source pending, and IME set with none. -/
theorem test_witness_halted :
    (sHalted false 0x01#8).status = .running ∧ (sHalted false 0x01#8).cpu.halted = true ∧
    (sHalted false 0x01#8).bus.params.eiDelay = false ∧ (sHalted false 0x01#8).cpu.ime = false ∧
    (sHalted true 0x00#8).cpu.ime = true ∧
    ∀ i, i < 5 → (((sHalted true 0x00#8).bus.update 4).intFlag &&& (sHalted true 0x00#8).bus.intEnable).getLsbD i = false := by
  refine ⟨rfl, rfl, rfl, rfl, rfl, ?_⟩
  decide

/-- Witness for the waking clause of HaltedStepTicksThenPolls: the source pending when the poll comes, and a next state. -/
theorem test_witness_halted_wakes :
    (sHalted true 0x01#8).cpu.ime = true ∧ LowestPending ((sHalted true 0x01#8).bus.update 4) 0 ∧
    ∃ t, step (sHalted true 0x01#8) = .next t := by
  refine ⟨rfl, ?_, _, rfl⟩
  unfold LowestPending
  decide

/-- Y4's second half as a step of its own: a halted machine wakes at the vector, 4 + 16 cycles (R253, R254, R288). -/
theorem test_halted_wakes :
    goes (sHalted true 0x01#8)
      (fun t => !t.cpu.halted && !t.cpu.ime && t.cpu.pc == 0x0040#16 && t.bus.intFlag == 0x00#8 && holds t 0xFFFD#16 0xC0#8
        && t.tally == 20) = true := by decide

/-- The state in which `s` pushes pc when it services source `i`. -/
def sServing (i : Nat) (s : State) : State :=
  { s with
    cpu := { s.cpu with ime := false, halted := false, eiPending := 0#2 }
    bus := { s.bus with intFlag := s.bus.intFlag &&& ~~~(BitVec.twoPow 8 i) }
    tally := 0 }

/-- Witnesses for PollServicesTheLowestInterrupt: nothing to service; source 2 the lowest; source 4 the last; the push complete and
failing at its first and at its second byte. -/
theorem test_witness_poll :
    (∀ i, i < 5 → ((s0Irq true 0xE0#8 0xFF#8 []).bus.intFlag &&& (s0Irq true 0xE0#8 0xFF#8 []).bus.intEnable).getLsbD i = false) ∧
    LowestPending (s0Irq true 0x14#8 0x1F#8 []).bus 2 ∧ LowestPending (s0Irq true 0x10#8 0x10#8 []).bus 4 ∧
    (∀ sp, Acknowledged 2 { s0Irq true 0x14#8 0x1F#8 [] with cpu := { (s0Irq true 0x14#8 0x1F#8 []).cpu with sp := sp } }
      (sServing 2 { s0Irq true 0x14#8 0x1F#8 [] with cpu := { (s0Irq true 0x14#8 0x1F#8 []).cpu with sp := sp } })) ∧
    (∃ b b', (sServing 2 (s0Irq true 0x14#8 0x1F#8 [])).bus.write (0xFFFE#16 - 1#16) 0xC0#8 = .ok b ∧
      b.write (0xFFFE#16 - 2#16) 0x00#8 = .ok b') ∧
    (sServing 2 (s0Irq true 0x14#8 0x1F#8 [])).bus.write (0xFF00#16 - 1#16) 0xC0#8 = .error (.busFault 0xFEFF#16 .write) ∧
    (∃ b, (sServing 2 (s0Irq true 0x14#8 0x1F#8 [])).bus.write (0xFF01#16 - 1#16) 0xC0#8 = .ok b ∧
      b.write (0xFF01#16 - 2#16) 0x00#8 = .error (.busFault 0xFEFF#16 .write)) := by
  refine ⟨by decide, ?_, ?_, fun sp => ⟨rfl, rfl, rfl, rfl, rfl⟩, ⟨_, _, rfl, rfl⟩, rfl, ⟨_, rfl, rfl⟩⟩ <;>
    (unfold LowestPending; decide)

/-- Witnesses for EiDelayCountsDown: the count at 0, 1 and 2. -/
theorem test_witness_ei_delay (ei : BitVec 2) :
    ∃ s : State, s.bus.params.eiDelay = true ∧ s.cpu.eiPending = ei :=
  ⟨{ s0 [] with
      cpu := { (s0 []).cpu with eiPending := ei }
      bus := { (s0 []).bus with params := { Params.default with eiDelay := true } } }, rfl, rfl⟩

/-- Witnesses for StepsEndRunningOrRecorded: every ending of a step, and both stopped states. -/
theorem test_witness_endings :
    (∃ t, step (s0 [0x00#8]) = .next t) ∧ (∃ r, step (s0 [0xD3#8]) = .fault r) ∧ (∃ r, step (s0 [0x10#8]) = .refused r) ∧
    (∃ s : State, s.status = .faulted (.dmaSource 0x7F#8)) ∧ ∃ s : State, s.status = .unmodelled 0xC000#16 0x10#8 :=
  ⟨⟨_, rfl⟩, ⟨_, rfl⟩, ⟨_, rfl⟩, ⟨{ s0 [] with status := _ }, rfl⟩, ⟨{ s0 [] with status := _ }, rfl⟩⟩

/-- With nothing listed in any array every array is in order. -/
theorem arraysOk_unlisted (image : Option Memory) (h : image.getD [] = []) :
    ArraysOk (State.atReset { Launch.empty with bootImage := image }).bus := by
  constructor
  case boot => exact (congrArg (ArrayOk 0x100) h).mpr ⟨rfl, rfl⟩
  all_goals exact ⟨rfl, rfl⟩

/-- A state that meets the invariant, for StepKeepsTheInvariant; it has a next state. -/
theorem test_witness_invariant : Inv State.reset ∧ ∃ t, step State.reset = .next t :=
  ⟨{ ppu := test_witness_ppu.1
     arrays := arraysOk_unlisted none rfl
     requests := ⟨rfl, rfl, rfl⟩
     latches := ⟨by decide, fun _ => rfl, fun h => absurd h (by decide), fun h => absurd h (by decide)⟩
     status := rfl }, ⟨_, rfl⟩⟩

/-- Witnesses for ResetMeetsTheInvariant and ResetTable: a launch in each configuration, its arrays in order. -/
theorem test_witness_launch :
    ArraysOk (State.atReset Launch.empty).bus ∧ ArraysOk sBoot.bus ∧ Launch.empty.bootImage = none ∧
    ({ Launch.empty with bootImage := some [] } : Launch).bootImage = some [] :=
  ⟨arraysOk_unlisted none rfl, arraysOk_unlisted (some []) rfl, rfl, rfl⟩

/-! ## The launch -/

/-- The ROM of S0: 32 KiB of zeros but the checksum byte 0xE7 (S1, "the checksum worked"). -/
def s0Rom : List Byte := List.replicate 0x14D 0x00#8 ++ 0xE7#8 :: List.replicate 0x7EB2 0x00#8

/-- A launch with that ROM and this save file. -/
def s0Launch (rom : List Byte) (save : Option (List Byte)) : LaunchInput :=
  { params := Params.default, rom := rom, save := save, bootImage := none, regs := InitRegs.noBoot, obp0 := 0x00#8, obp1 := 0x00#8
    vram := Vector.replicate _ 0x00#8, oam := Vector.replicate _ 0x00#8, wram := Vector.replicate _ 0x00#8
    hram := Vector.replicate _ 0x00#8 }

theorem s0Rom_length : s0Rom.length = 0x8000 := by simp [s0Rom, -List.reduceReplicate]

theorem s0Rom_byte (k : Nat) : romByte s0Rom k = if k = 0x14D then 0xE7#8 else 0x00#8 := by
  unfold romByte s0Rom
  rw [List.getD_eq_getElem?_getD, List.getElem?_append, List.getElem?_cons, List.getElem?_replicate, List.getElem?_replicate]
  simp only [List.length_replicate]
  split
  · have : k ≠ 0x14D := by omega
    simp [this]
  · split
    · have : k = 0x14D := by omega
      simp [this]
    · have : k ≠ 0x14D := by omega
      split <;> simp_all

/-- The checksum worked in S1: 25 zero bytes give 0xE7. -/
theorem s0Rom_checksum : headerChecksum s0Rom = 0xE7#8 := by
  have h : (s0Rom.drop 0x134).take 25 = List.replicate 25 0x00#8 := by
    simp [s0Rom, List.drop_append, -List.reduceReplicate]
  unfold headerChecksum
  rw [h]
  rfl

/-- S1.2, and the witness for LaunchChecksAndSave: the ROM of S0 gives a machine. -/
theorem test_witness_construct : ∃ s, construct (s0Launch s0Rom none) = .ok s := by
  have h : validate (s0Launch s0Rom none) = .ok (0, .none) := by
    simp [validate, s0Launch, s0Rom_length, s0Rom_byte, s0Rom_checksum, romSizeCode, RamSize.ofCode]
  simp only [construct, h]
  exact ⟨_, rfl⟩

/-- S1.4: a ROM of 0x14F bytes is refused. -/
theorem test_S1_4_short_rom :
    construct (s0Launch (List.replicate 0x14F 0x00#8) none) = .error .romTooShort := by
  simp [construct, validate, s0Launch, -List.reduceReplicate]

/-- A save file of the wrong length is refused (R303). -/
theorem test_bad_save : construct (s0Launch s0Rom (some [0x00#8])) = .error .badSaveLength := by
  have h : validate (s0Launch s0Rom (some [0x00#8])) = .error .badSaveLength := by
    simp [validate, s0Launch, s0Rom_length, s0Rom_byte, s0Rom_checksum, romSizeCode, RamSize.ofCode, RamSize.bytes]
  simp only [construct, h]

/-- X5's store seen by the save (R287): the byte at its offset in the image, the next one as it was. -/
theorem test_save_image :
    (State.saveImage { s0 [] with
      bus := { (s0 []).bus with cart := { (s0 []).bus.cart with ramSize := .kib32, eram := [(0x4005, 0x66#8)] } } }).length
        = 0x8000 ∧
    Memory.read [(0x4005, 0x66#8)] 0x4005 = 0x66#8 ∧ Memory.read [(0x4005, 0x66#8)] 0x4006 = 0x00#8 := by
  refine ⟨?_, rfl, rfl⟩
  simp [State.saveImage, Memory.toBytes, RamSize.bytes]

end Sys2Proof.Tests
end

section
/-! Frames. What each update of the state keeps (`Kept`), how two changes add up, and from these what a shape that reads, writes,
pushes or pops does as a whole: the statements' `LoadsFrom`, `StoresTo`, `Pushes` and `Pops`, each from the shape's `exec`. -/

namespace Sys2Proof.Proofs

open Sys2Proof.Machine Sys2Proof.Safety Sys2Proof.Laws Sys2Proof.Claims

/-! ## Frames of the updates -/

theorem same_trans {p : Part} {s u t : State} (h : p.Same s u) (h' : p.Same u t) : p.Same s t := by
  cases p <;> exact Eq.trans h' h

/-- Changes one after the other: the parts and the cycles of both. -/
theorem kept_trans {c c' : List Part} {n n' : Nat} {s u t : State} (h : Kept c n s u) (h' : Kept c' n' u t) :
    Kept (c ++ c') (n + n') s t where
  parts p hp := by
    rw [List.mem_append, not_or] at hp
    exact same_trans (h.parts p hp.1) (h'.parts p hp.2)
  tally := by rw [h'.tally, h.tally, Nat.add_assoc]
  total := h'.total.trans h.total
  status := h'.status.trans h.status

theorem kept_refl (s : State) : Kept [] 0 s s :=
  ⟨fun p _ => by cases p <;> rfl, rfl, rfl, rfl⟩

theorem kept_tick (n : Nat) (s : State) : Kept [] n s (s.tick n) :=
  ⟨fun p _ => by cases p <;> rfl, rfl, rfl, rfl⟩

theorem kept_tickHw (n : Nat) (s : State) : Kept [] (hardwareOnly n s) s (s.tickHw n) where
  parts p _ := by cases p <;> simp [Part.Same]
  tally := tickHw_tally n s
  total := tickHw_cycles n s
  status := tickHw_status n s

theorem kept_withBus (b : Bus) (s : State) : Kept [.bus] 0 s (s.withBus b) := by
  refine ⟨fun p hp => ?_, rfl, rfl, rfl⟩
  cases p with
  | bus => simp at hp
  | _ => rfl

theorem kept_setPc (v : Word) (s : State) : Kept [.pc] 0 s (s.setPc v) := by
  refine ⟨fun p hp => ?_, rfl, rfl, rfl⟩
  cases p with
  | pc => simp at hp
  | reg r => exact reg_withPc r v s.cpu
  | _ => rfl

theorem kept_setReg (r : Reg8) (v : Byte) (s : State) : Kept [.reg r] 0 s (s.withCpu (s.cpu.setReg r v)) := by
  refine ⟨fun p hp => ?_, rfl, rfl, rfl⟩
  cases p with
  | reg r' => exact reg_setReg_other (by simpa using hp) v s.cpu
  | _ => simp [Part.Same]

theorem kept_setStackPair (rr : StackPair) (v : Word) (s : State) :
    Kept (stackPairParts rr) 0 s (s.withCpu (s.cpu.setStackPair rr v)) := by
  refine ⟨fun p hp => ?_, rfl, rfl, rfl⟩
  cases p with
  | reg r => exact reg_setStackPair hp v s.cpu
  | flags =>
    have hrr : rr ≠ .af := by rintro rfl; simp [stackPairParts] at hp
    simp [Part.Same, hrr]
  | _ => simp [Part.Same]

/-- RETI's writes of pc and the interrupt latches (R211). -/
theorem kept_resume (v : Word) (s : State) :
    Kept [.pc, .ime, .eiPending] 0 s (s.withCpu { s.cpu with pc := v, ime := true, eiPending := 0#2 }) := by
  refine ⟨fun p hp => ?_, rfl, rfl, rfl⟩
  cases p with
  | pc | ime | eiPending => simp at hp
  | reg r => cases r <;> rfl
  | _ => rfl

/-- A pop's reads leave the bus. -/
theorem kept_stackState_read (sp : Word) (n : Nat) (s : State) : Kept [.sp] n s (stackState sp s.bus n s) := by
  refine ⟨fun p hp => ?_, rfl, rfl, rfl⟩
  cases p with
  | sp => simp at hp
  | reg r => exact reg_withSp r sp s.cpu
  | _ => rfl

theorem kept_stackState (sp : Word) (b : Bus) (n : Nat) (s : State) : Kept [.bus, .sp] n s (stackState sp b n s) := by
  refine ⟨fun p hp => ?_, rfl, rfl, rfl⟩
  cases p with
  | sp | bus => simp at hp
  | reg r => exact reg_withSp r sp s.cpu
  | _ => rfl

/-! ## One access -/

theorem loadsFrom_of_exec {i : Instr} {dst : Reg8} {addr : Word} {s : State} (hi : exec i s = loadFrom dst addr s) :
    LoadsFrom i dst addr s := by
  refine ⟨fun v hv => ⟨_, hi.trans (readThen_ok hv _), ?_, ?_⟩, fun kind hk => hi.trans (readThen_error hk _)⟩
  · exact reg_setReg_same dst v s.cpu
  · exact kept_trans (kept_tick 4 s) (kept_setReg dst v (s.tick 4))

theorem storesTo_of_exec {i : Instr} {addr : Word} {v : Byte} {s : State} (hi : exec i s = storeTo addr v s) :
    StoresTo i addr v s := by
  refine ⟨fun b hb => ⟨_, hi.trans (writeThen_ok hb _), rfl, ?_⟩, fun kind hk => hi.trans (writeThen_error hk _)⟩
  simpa using kept_trans (kept_withBus b s) (kept_tick 4 (s.withBus b))

/-! ## The stack: a push or pop and a tail that changes the state further -/

section
variable {s t : State} {changed : List Part} {extra : Nat}

/-- A push whose writes complete, and what its tail changes. -/
theorem kept_pushed {a a' : Word} {v v' : Byte} {b b' : Bus} {tail : State → State} (sp : Word)
    (hb : s.bus.write a v = .ok b) (hb' : b.write a' v' = .ok b')
    (htail : ∀ u, Kept changed (hardwareOnly extra u) u (tail u)) :
    Kept (.bus :: .sp :: changed) (8 + hardwareOnly extra s) s (tail (stackState sp b' 8 s)) := by
  have hparams : (stackState sp b' 8 s).bus.params = s.bus.params :=
    (write_frame hb').params.trans (write_frame hb).params
  rw [← hardwareOnly_congr extra hparams]
  exact kept_trans (kept_stackState sp b' 8 s) (htail _)

theorem push16Then_kept {v : Word} {tail : State → State} (htail : ∀ u, Kept changed (hardwareOnly extra u) u (tail u))
    (h : push16Then v s (fun u => .next (tail u)) = .next t) :
    Kept (.bus :: .sp :: changed) (8 + hardwareOnly extra s) s t := by
  obtain ⟨b, b', hb, hb', h⟩ := push16Then_next.1 h
  cases h
  exact kept_pushed _ hb hb' htail

theorem pushes_of_exec {i : Instr} {v : Word} {also : State → Prop} {tail : State → State}
    (hi : exec i s = push16Then v s fun u => .next (tail u))
    (hbus : ∀ u, (tail u).bus = u.bus) (hsp : ∀ u, (tail u).cpu.sp = u.cpu.sp) (halso : ∀ u, also (tail u))
    (htail : ∀ u, Kept changed (hardwareOnly extra u) u (tail u)) : Pushes i v changed extra also s := by
  refine ⟨fun b b' hb hb' => ?_, fun kind hk => hi.trans (push16Then_first hk _),
    fun b kind hb hk => hi.trans (push16Then_second hb hk _)⟩
  exact ⟨_, hi.trans (push16Then_ok hb hb' _), hbus _, hsp _, halso _, kept_pushed _ hb hb' htail⟩

/-- A pop whose reads complete, and what its tail changes. -/
theorem kept_popped {tail : State → State} (sp : Word) (htail : ∀ u, Kept changed (hardwareOnly extra u) u (tail u)) :
    Kept (.sp :: changed) (8 + hardwareOnly extra s) s (tail (stackState sp s.bus 8 s)) :=
  kept_trans (kept_stackState_read sp 8 s) (htail (stackState sp s.bus 8 s))

theorem pop16Then_kept {tail : Word → State → State} (htail : ∀ v u, Kept changed (hardwareOnly extra u) u (tail v u))
    (h : pop16Then s (fun v u => .next (tail v u)) = .next t) :
    Kept (.sp :: changed) (8 + hardwareOnly extra s) s t := by
  obtain ⟨lo, hi, -, -, h⟩ := pop16Then_next.1 h
  cases h
  exact kept_popped _ (htail _)

theorem pops_of_exec {i : Instr} {also : Word → State → Prop} {tail : Word → State → State}
    (hi : exec i s = pop16Then s fun v u => .next (tail v u))
    (hsp : ∀ v u, (tail v u).cpu.sp = u.cpu.sp) (halso : ∀ v u, also v (tail v u))
    (htail : ∀ v u, Kept changed (hardwareOnly extra u) u (tail v u)) : Pops i changed extra also s := by
  refine ⟨fun lo hi' hlo hhi => ?_, fun kind hk => hi.trans (pop16Then_first hk _),
    fun lo kind hlo hk => hi.trans (pop16Then_second hlo hk _)⟩
  exact ⟨_, hi.trans (pop16Then_ok hlo hhi _), hsp _ _, halso _ _, kept_popped _ (htail _)⟩

end

/-! ## The tails of the pushes and pops -/

/-- The tail of calls and returns. -/
theorem kept_jump (v : Word) (extra : Nat) (s : State) :
    Kept [.pc] (hardwareOnly extra s) s ((s.setPc v).tickHw extra) := by
  simpa using kept_trans (kept_setPc v s) (kept_tickHw extra (s.setPc v))

/-- The tail of RETI. -/
theorem kept_resume_tickHw (v : Word) (s : State) :
    Kept [.pc, .ime, .eiPending] (hardwareOnly 4 s) s
      ((s.withCpu { s.cpu with pc := v, ime := true, eiPending := 0#2 }).tickHw 4) := by
  simpa using kept_trans (kept_resume v s) (kept_tickHw 4 (s.withCpu _))

end Sys2Proof.Proofs
end

section
/-! Runs of the shapes: each shape of meaning is said once to keep, clear, set or compute the flags as a column of the opcode table
allows and to add a number of cycles to the tally (`Ran`). -/

namespace Sys2Proof.Proofs

open Sys2Proof.Machine Sys2Proof.Safety Sys2Proof.Laws

/-! ## What a run does to the flags and the tally -/

/-- Each flag is after the run what its letter of the column allows. -/
structure AllowsFlags (col : FlagColumn) (old new : Flags) : Prop where
  z : col.z.Allows old.z new.z
  n : col.n.Allows old.n new.n
  h : col.h.Allows old.h new.h
  c : col.c.Allows old.c new.c

/-- The column of a row that writes no flag. -/
def keptColumn : FlagColumn := ⟨.kept, .kept, .kept, .kept⟩

/-- From `s` to `t` the flags are treated as the column says and the tally grows by `cycles`. -/
structure Ran (col : FlagColumn) (cycles : Nat) (s t : State) : Prop where
  flags : AllowsFlags col s.cpu.f t.cpu.f
  tally : t.tally = s.tally + cycles

theorem allowsFlags_kept (f : Flags) : AllowsFlags keptColumn f f := ⟨rfl, rfl, rfl, rfl⟩

theorem Ran.of_flags_eq {cycles : Nat} {s t : State} (hf : t.cpu.f = s.cpu.f) (ht : t.tally = s.tally + cycles) :
    Ran keptColumn cycles s t := ⟨hf ▸ allowsFlags_kept _, ht⟩

/-- A frame without the flags. -/
theorem ran_of_kept {changed : List Part} {cycles : Nat} {s t : State} (h : Kept changed cycles s t)
    (hf : Part.flags ∉ changed) : Ran keptColumn cycles s t :=
  .of_flags_eq (h.parts .flags hf) h.tally

/-- The cycles an operand adds: none for a register, `n` for the byte at HL. -/
def atHlCycles (n : Nat) (o : Operand8) : Nat :=
  match o with
  | .reg _ => 0
  | .atHl => n

/-! ## The flags columns of the computed results -/

/-- The flags column of an ALU operation (R151 to R158). -/
def aluColumn (op : AluOp) : FlagColumn :=
  match op with
  | .add | .adc => ⟨.computed, .cleared, .computed, .computed⟩
  | .sub | .sbc | .cp => ⟨.computed, .set, .computed, .computed⟩
  | .and => ⟨.computed, .cleared, .set, .cleared⟩
  | .xor | .or => ⟨.computed, .cleared, .cleared, .cleared⟩

/-- The flags column of an extended rotate or shift (R184 to R191): SWAP alone clears C. -/
def shiftColumn (op : ShiftOp) : FlagColumn :=
  match op with
  | .swap => ⟨.computed, .cleared, .cleared, .cleared⟩
  | _ => ⟨.computed, .cleared, .cleared, .computed⟩

/-- The flags column of a stack pair's POP: AF alone takes them from the stack (R144, R145). -/
def popColumn (rr : StackPair) : FlagColumn :=
  match rr with
  | .af => ⟨.computed, .computed, .computed, .computed⟩
  | _ => keptColumn

theorem allowsFlags_alu8 (op : AluOp) (a v : Byte) (f : Flags) : AllowsFlags (aluColumn op) f (alu8 op a v f).2 := by
  cases op <;> exact ⟨trivial, rfl, by trivial, by trivial⟩

theorem allowsFlags_shiftFlags (op : ShiftOp) (v : Byte) (f : Flags) :
    AllowsFlags (shiftColumn op) f (shiftFlags op v f.c) := by
  cases op <;> exact ⟨trivial, rfl, rfl, by trivial⟩

/-! ## The shapes that touch no memory -/

section
variable {s t : State}

theorem nop_ran (h : exec .nop s = .next t) : Ran keptColumn 0 s t := by
  cases h; exact .of_flags_eq rfl rfl

theorem loadReg_ran {dst src : Reg8} (h : loadReg dst src s = .next t) : Ran keptColumn 0 s t := by
  cases h; exact .of_flags_eq (by simp) (by simp)

theorem loadImm_ran {dst : Reg8} {n : Byte} (h : loadImm dst n s = .next t) : Ran keptColumn 0 s t := by
  cases h; exact .of_flags_eq (by simp) (by simp)

theorem loadPair_ran {rr : Pair} {nn : Word} (h : loadPair rr nn s = .next t) : Ran keptColumn 0 s t := by
  cases h; exact .of_flags_eq (by simp) (by simp)

theorem loadSpFromHl_ran (h : loadSpFromHl s = .next t) : Ran keptColumn (hardwareOnly 4 s) s t := by
  cases h; exact .of_flags_eq (by simp) (by simp)

theorem aluImm_ran {op : AluOp} {n : Byte} (h : aluImm op n s = .next t) : Ran (aluColumn op) 0 s t := by
  cases h; exact ⟨allowsFlags_alu8 op _ _ _, by simp⟩

theorem decimalAdjust_ran (h : decimalAdjust s = .next t) : Ran ⟨.computed, .kept, .cleared, .computed⟩ 0 s t := by
  cases h; exact ⟨⟨trivial, rfl, rfl, trivial⟩, by simp⟩

theorem complementA_ran (h : complementA s = .next t) : Ran ⟨.kept, .set, .set, .kept⟩ 0 s t := by
  cases h; exact ⟨⟨rfl, rfl, rfl, rfl⟩, by simp⟩

/-- SCF and CCF: the column's letter for C is left to the row. -/
theorem writeCarry_ran {c : Bool} {rule : FlagRule} (hc : rule.Allows s.cpu.f.c c) (h : writeCarry c s = .next t) :
    Ran ⟨.kept, .cleared, .cleared, rule⟩ 0 s t := by
  cases h; exact ⟨⟨rfl, rfl, rfl, hc⟩, by simp⟩

theorem shiftA_ran {op : ShiftOp} (h : shiftA op s = .next t) : Ran ⟨.cleared, .cleared, .cleared, .computed⟩ 0 s t := by
  cases h; exact ⟨⟨rfl, rfl, rfl, trivial⟩, by simp⟩

theorem addToPair_ran {rr : Pair} {delta : Word} (h : addToPair rr delta s = .next t) :
    Ran keptColumn (hardwareOnly 4 s) s t := by
  cases h; exact .of_flags_eq (by simp) (by simp)

theorem addToHl_ran {rr : Pair} (h : addToHl rr s = .next t) :
    Ran ⟨.kept, .cleared, .computed, .computed⟩ (hardwareOnly 4 s) s t := by
  cases h; exact ⟨by rw [tickHw_cpu]; exact ⟨rfl, rfl, trivial, trivial⟩, by simp⟩

theorem addToSp_ran {e : Byte} (h : addToSp e s = .next t) :
    Ran ⟨.cleared, .cleared, .computed, .computed⟩ (hardwareOnly 8 s) s t := by
  cases h; exact ⟨by rw [tickHw_cpu]; exact ⟨rfl, rfl, trivial, trivial⟩, by simp⟩

theorem loadHlSpDisp_ran {e : Byte} (h : loadHlSpDisp e s = .next t) :
    Ran ⟨.cleared, .cleared, .computed, .computed⟩ (hardwareOnly 4 s) s t := by
  cases h; exact ⟨by rw [tickHw_cpu]; exact ⟨rfl, rfl, trivial, trivial⟩, by simp⟩

theorem jumpTo_ran {target : Word} (h : jumpTo target s = .next t) : Ran keptColumn (hardwareOnly 4 s) s t := by
  cases h; exact .of_flags_eq (by simp) (by simp)

theorem jumpHl_ran (h : jumpHl s = .next t) : Ran keptColumn 0 s t := by
  cases h; exact .of_flags_eq rfl rfl

theorem jumpIf_ran {cc : Cond} {target : Word} (h : jumpIf cc target s = .next t) :
    Ran keptColumn (if condHolds cc s.cpu.f then hardwareOnly 4 s else 0) s t := by
  unfold jumpIf at h
  split at h
  case isTrue hc => rw [if_pos hc]; exact jumpTo_ran h
  case isFalse hc => rw [if_neg hc]; cases h; exact .of_flags_eq rfl rfl

theorem haltCpu_ran (h : haltCpu s = .next t) : Ran keptColumn 0 s t := by
  unfold haltCpu at h
  split at h <;> (cases h; exact .of_flags_eq rfl rfl)

theorem disableInterrupts_ran (h : disableInterrupts s = .next t) : Ran keptColumn 0 s t := by
  cases h; exact .of_flags_eq rfl rfl

theorem enableInterrupts_ran (h : enableInterrupts s = .next t) : Ran keptColumn 0 s t := by
  unfold enableInterrupts at h
  split at h
  · cases h; exact .of_flags_eq rfl rfl
  · split at h <;> (cases h; exact .of_flags_eq rfl rfl)

/-! ## The shapes that read or write memory -/

theorem loadFrom_ran {dst : Reg8} {addr : Word} (h : loadFrom dst addr s = .next t) : Ran keptColumn 4 s t := by
  obtain ⟨v, -, rfl⟩ := loadFrom_next.1 h
  exact .of_flags_eq (by simp) (by simp)

theorem storeTo_ran {addr : Word} {v : Byte} (h : storeTo addr v s = .next t) : Ran keptColumn 4 s t := by
  obtain ⟨b, -, rfl⟩ := storeTo_next.1 h
  exact .of_flags_eq rfl rfl

theorem loadAStepping_ran {delta : Word} (h : loadAStepping delta s = .next t) : Ran keptColumn 4 s t := by
  obtain ⟨v, -, rfl⟩ := loadAStepping_next.1 h
  exact .of_flags_eq rfl rfl

theorem storeAStepping_ran {delta : Word} (h : storeAStepping delta s = .next t) : Ran keptColumn 4 s t := by
  obtain ⟨b, -, rfl⟩ := storeAStepping_next.1 h
  exact .of_flags_eq rfl rfl

theorem storeSp_ran {addr : Word} (h : storeSp addr s = .next t) : Ran keptColumn 8 s t := by
  obtain ⟨b, b', -, -, rfl⟩ := storeSp_next.1 h
  exact .of_flags_eq rfl rfl

theorem aluOperand_ran {op : AluOp} {o : Operand8} (h : aluOperand op o s = .next t) :
    Ran (aluColumn op) (atHlCycles 4 o) s t := by
  obtain ⟨v, n, hv, rfl⟩ := aluOperand_next.1 h
  refine ⟨allowsFlags_alu8 op _ _ _, ?_⟩
  cases o <;> simp [hv.2, atHlCycles]

theorem testBit_ran {k : Fin 8} {o : Operand8} (h : testBit k o s = .next t) :
    Ran ⟨.computed, .cleared, .set, .kept⟩ (atHlCycles 4 o) s t := by
  obtain ⟨v, n, hv, rfl⟩ := testBit_next.1 h
  refine ⟨⟨trivial, rfl, rfl, rfl⟩, ?_⟩
  cases o <;> simp [hv.2, atHlCycles]

/-- A read-modify-write treats the flags as a column says when every value's flags do. -/
theorem modifyOperand_ran {col : FlagColumn} {o : Operand8} {value : Byte → Byte} {flags : Byte → Flags}
    (hcol : ∀ v, AllowsFlags col s.cpu.f (flags v)) (h : modifyOperand o value flags s = .next t) :
    Ran col (atHlCycles 8 o) s t := by
  cases o with
  | reg r => cases h; exact ⟨hcol _, rfl⟩
  | atHl =>
    obtain ⟨v, b, -, -, rfl⟩ := modifyOperand_atHl_next.1 h
    exact ⟨hcol v, rfl⟩

theorem incOperand_ran {o : Operand8} (h : incOperand o s = .next t) :
    Ran ⟨.computed, .cleared, .computed, .kept⟩ (atHlCycles 8 o) s t :=
  modifyOperand_ran (flags := fun v => incFlags v s.cpu.f) (fun _ => ⟨trivial, rfl, trivial, rfl⟩) h

theorem decOperand_ran {o : Operand8} (h : decOperand o s = .next t) :
    Ran ⟨.computed, .set, .computed, .kept⟩ (atHlCycles 8 o) s t :=
  modifyOperand_ran (flags := fun v => decFlags v s.cpu.f) (fun _ => ⟨trivial, rfl, trivial, rfl⟩) h

theorem shiftOperand_ran {op : ShiftOp} {o : Operand8} (h : shiftOperand op o s = .next t) :
    Ran (shiftColumn op) (atHlCycles 8 o) s t :=
  modifyOperand_ran (fun v => allowsFlags_shiftFlags op v _) h

theorem rewriteOperand_ran {o : Operand8} {value : Byte → Byte} (h : rewriteOperand o value s = .next t) :
    Ran keptColumn (atHlCycles 8 o) s t := by
  cases o with
  | reg r => cases h; exact .of_flags_eq (by simp) rfl
  | atHl =>
    obtain ⟨v, b, -, -, rfl⟩ := rewriteOperand_atHl_next.1 h
    exact .of_flags_eq rfl rfl

/-! ## The stack -/

theorem pushPair_ran {rr : StackPair} (h : pushPair rr s = .next t) : Ran keptColumn (8 + hardwareOnly 4 s) s t :=
  ran_of_kept (push16Then_kept (kept_tickHw 4) h) (by simp)

theorem callTo_ran {target : Word} (h : callTo target s = .next t) : Ran keptColumn (8 + hardwareOnly 4 s) s t :=
  ran_of_kept (push16Then_kept (kept_jump target 4) h) (by simp)

theorem callIf_ran {cc : Cond} {target : Word} (h : callIf cc target s = .next t) :
    Ran keptColumn (if condHolds cc s.cpu.f then 8 + hardwareOnly 4 s else 0) s t := by
  unfold callIf at h
  split at h
  case isTrue hc => rw [if_pos hc]; exact callTo_ran h
  case isFalse hc => rw [if_neg hc]; cases h; exact .of_flags_eq rfl rfl

theorem popPair_ran {rr : StackPair} (h : popPair rr s = .next t) : Ran (popColumn rr) 8 s t := by
  obtain ⟨lo, hi, -, -, h⟩ := pop16Then_next.1 h
  cases h
  refine ⟨?_, rfl⟩
  cases rr with
  | af => exact ⟨trivial, trivial, trivial, trivial⟩
  | _ => exact allowsFlags_kept _

theorem returnWith_ran {extra : Nat} (h : returnWith extra s = .next t) :
    Ran keptColumn (8 + hardwareOnly extra s) s t :=
  ran_of_kept (pop16Then_kept (fun v => kept_jump v extra) h) (by simp)

theorem returnIf_ran {cc : Cond} (h : returnIf cc s = .next t) :
    Ran keptColumn (if condHolds cc s.cpu.f then 8 + hardwareOnly 8 s else hardwareOnly 4 s) s t := by
  unfold returnIf at h
  split at h
  case isTrue hc => rw [if_pos hc]; exact returnWith_ran h
  case isFalse hc => rw [if_neg hc]; cases h; exact .of_flags_eq (by simp) (by simp)

theorem returnFromInterrupt_ran (h : returnFromInterrupt s = .next t) :
    Ran keptColumn (8 + hardwareOnly 4 s) s t :=
  ran_of_kept (pop16Then_kept kept_resume_tickHw h) (by simp)

end

end Sys2Proof.Proofs
end

section
/-! The opcode table's flags and cycles columns: each row is said once to have its column, its length and its cycles (`FlatRow`,
`CondRow`), and joins in `exec_followsTable` with what its shape's run does (`Ran`). -/

namespace Sys2Proof.Proofs

open Sys2Proof.Machine Sys2Proof.Safety Sys2Proof.Laws

/-! ## Rows of the table -/

/-- A row without a condition: its flags column, the bytes a step fetches for it, and a cycles column that is the fetch's cycles,
`access` more, and under `Hardware` another `extra`. -/
structure FlatRow (i : Instr) (col : FlagColumn) (len access extra : Nat) : Prop where
  flags : i.flagColumn = col
  length : fetchedLength i = len
  cycles : i.cycleColumn =
    some ⟨4 * len + access, 4 * len + access, 4 * len + access + extra, 4 * len + access + extra⟩

/-- A conditional row, which writes no flag: beyond the fetch `extra` under `Hardware` where the condition fails, and where it holds
`access` with `extraTaken` under `Hardware`. -/
structure CondRow (i : Instr) (cc : Cond) (len extra access extraTaken : Nat) : Prop where
  condition : i.condition = some cc
  flags : i.flagColumn = keptColumn
  length : fetchedLength i = len
  cycles : i.cycleColumn = some ⟨4 * len, 4 * len + access, 4 * len + extra, 4 * len + access + extraTaken⟩

theorem row_ldReg (dst src : Reg8) : FlatRow (Instr.ldReg dst src) keptColumn 1 0 0 := by
  cases dst <;> cases src <;> exact ⟨rfl, rfl, rfl⟩

theorem row_ldImm (dst : Reg8) (n : Byte) : FlatRow (Instr.ldImm dst n) keptColumn 2 0 0 := by
  cases dst <;> exact ⟨rfl, rfl, rfl⟩

theorem row_ldRegAtHl (dst : Reg8) : FlatRow (Instr.ldRegAtHl dst) keptColumn 1 4 0 := by
  cases dst <;> exact ⟨rfl, rfl, rfl⟩

theorem row_ldAtHlReg (src : Reg8) : FlatRow (Instr.ldAtHlReg src) keptColumn 1 4 0 := by
  cases src <;> exact ⟨rfl, rfl, rfl⟩

theorem row_alu (op : AluOp) (o : Operand8) : FlatRow (Instr.alu op o) (aluColumn op) 1 (atHlCycles 4 o) 0 := by
  rcases o with (r | _)
  · cases op <;> cases r <;> exact ⟨rfl, rfl, rfl⟩
  · cases op <;> exact ⟨rfl, rfl, rfl⟩

theorem row_aluImm (op : AluOp) (n : Byte) : FlatRow (Instr.aluImm op n) (aluColumn op) 2 0 0 := by
  cases op <;> exact ⟨rfl, rfl, rfl⟩

theorem row_inc8 (o : Operand8) :
    FlatRow (Instr.inc8 o) ⟨.computed, .cleared, .computed, .kept⟩ 1 (atHlCycles 8 o) 0 := by
  rcases o with (r | _)
  · cases r <;> exact ⟨rfl, rfl, rfl⟩
  · exact ⟨rfl, rfl, rfl⟩

theorem row_dec8 (o : Operand8) :
    FlatRow (Instr.dec8 o) ⟨.computed, .set, .computed, .kept⟩ 1 (atHlCycles 8 o) 0 := by
  rcases o with (r | _)
  · cases r <;> exact ⟨rfl, rfl, rfl⟩
  · exact ⟨rfl, rfl, rfl⟩

theorem row_ldPair (rr : Pair) (nn : Word) : FlatRow (Instr.ldPair rr nn) keptColumn 3 0 0 := by
  cases rr <;> exact ⟨rfl, rfl, rfl⟩

theorem row_incPair (rr : Pair) : FlatRow (Instr.incPair rr) keptColumn 1 0 4 := by
  cases rr <;> exact ⟨rfl, rfl, rfl⟩

theorem row_decPair (rr : Pair) : FlatRow (Instr.decPair rr) keptColumn 1 0 4 := by
  cases rr <;> exact ⟨rfl, rfl, rfl⟩

theorem row_addHl (rr : Pair) : FlatRow (Instr.addHl rr) ⟨.kept, .cleared, .computed, .computed⟩ 1 0 4 := by
  cases rr <;> exact ⟨rfl, rfl, rfl⟩

theorem row_push (rr : StackPair) : FlatRow (Instr.push rr) keptColumn 1 8 4 := by
  cases rr <;> exact ⟨rfl, rfl, rfl⟩

theorem row_pop (rr : StackPair) : FlatRow (Instr.pop rr) (popColumn rr) 1 8 0 := by
  cases rr <;> exact ⟨rfl, rfl, rfl⟩

theorem row_jpCond (cc : Cond) (nn : Word) : CondRow (Instr.jpCond cc nn) cc 3 0 0 4 := by
  cases cc <;> exact ⟨rfl, rfl, rfl, rfl⟩

theorem row_jrCond (cc : Cond) (e : Byte) : CondRow (Instr.jrCond cc e) cc 2 0 0 4 := by
  cases cc <;> exact ⟨rfl, rfl, rfl, rfl⟩

theorem row_callCond (cc : Cond) (nn : Word) : CondRow (Instr.callCond cc nn) cc 3 0 8 4 := by
  cases cc <;> exact ⟨rfl, rfl, rfl, rfl⟩

theorem row_retCond (cc : Cond) : CondRow (Instr.retCond cc) cc 1 4 8 8 := by
  cases cc <;> exact ⟨rfl, rfl, rfl, rfl⟩

theorem row_rst (y : Fin 8) : FlatRow (Instr.rst y) keptColumn 1 8 4 := by
  fin_cases y <;> exact ⟨rfl, rfl, rfl⟩

theorem row_cbShift (op : ShiftOp) (o : Operand8) :
    FlatRow (Instr.cbShift op o) (shiftColumn op) 2 (atHlCycles 8 o) 0 := by
  rcases o with (r | _)
  · cases op <;> cases r <;> exact ⟨rfl, rfl, rfl⟩
  · cases op <;> exact ⟨rfl, rfl, rfl⟩

theorem row_cbBit (k : Fin 8) (o : Operand8) :
    FlatRow (Instr.cbBit k o) ⟨.computed, .cleared, .set, .kept⟩ 2 (atHlCycles 4 o) 0 := by
  rcases o with (r | _)
  · fin_cases k <;> cases r <;> exact ⟨rfl, rfl, rfl⟩
  · fin_cases k <;> exact ⟨rfl, rfl, rfl⟩

theorem row_cbRes (k : Fin 8) (o : Operand8) : FlatRow (Instr.cbRes k o) keptColumn 2 (atHlCycles 8 o) 0 := by
  rcases o with (r | _)
  · fin_cases k <;> cases r <;> exact ⟨rfl, rfl, rfl⟩
  · fin_cases k <;> exact ⟨rfl, rfl, rfl⟩

theorem row_cbSet (k : Fin 8) (o : Operand8) : FlatRow (Instr.cbSet k o) keptColumn 2 (atHlCycles 8 o) 0 := by
  rcases o with (r | _)
  · fin_cases k <;> cases r <;> exact ⟨rfl, rfl, rfl⟩
  · fin_cases k <;> exact ⟨rfl, rfl, rfl⟩

/-! ## The table against the meanings -/

/-- The run of `i` from `s` to `t` is the one its row of the table describes: the flags as the flags column says, and the cycles of
the fetch and those the run adds together the cycles column's. -/
structure FollowsTable (i : Instr) (s t : State) : Prop where
  flags : AllowsFlags i.flagColumn s.cpu.f t.cpu.f
  cycles : ∃ column added, i.cycleColumn = some column ∧ t.tally = s.tally + added ∧
    4 * fetchedLength i + added = column.of s.bus.params.timing (i.taken s.cpu.f)

section
variable {i : Instr} {s t : State} {len extra access extraTaken cycles : Nat}

/-- What a column gives of which the two paths under each timing are these. -/
theorem cycleColumn_of (a aT e eT : Nat) (taken : Bool) (s : State) :
    CycleColumn.of ⟨a, aT, a + e, aT + eT⟩ s.bus.params.timing taken =
      if taken then aT + hardwareOnly eT s else a + hardwareOnly e s := by
  cases taken <;> unfold hardwareOnly CycleColumn.of <;> cases s.bus.params.timing <;> rfl

theorem FlatRow.follows {col : FlagColumn} (hrow : FlatRow i col len access extra) (hrun : Ran col cycles s t)
    (hcycles : cycles = access + hardwareOnly extra s := by simp) : FollowsTable i s t := by
  refine ⟨hrow.flags ▸ hrun.flags, _, _, hrow.cycles, hrun.tally, ?_⟩
  rw [hcycles, hrow.length, cycleColumn_of, ite_self, Nat.add_assoc]

/-- A single row, read off the table by its length and its cycles. -/
theorem FollowsTable.of_flat {col : FlagColumn} (len access extra : Nat) (hrow : FlatRow i col len access extra)
    (hrun : Ran col cycles s t) (hcycles : cycles = access + hardwareOnly extra s := by simp) : FollowsTable i s t :=
  hrow.follows hrun hcycles

theorem CondRow.follows {cc : Cond} (hrow : CondRow i cc len extra access extraTaken) (hrun : Ran keptColumn cycles s t)
    (hcycles : cycles = (if condHolds cc s.cpu.f then access + hardwareOnly extraTaken s else hardwareOnly extra s) := by simp) :
    FollowsTable i s t := by
  refine ⟨hrow.flags ▸ hrun.flags, _, _, hrow.cycles, hrun.tally, ?_⟩
  have htaken : i.taken s.cpu.f = condHolds cc s.cpu.f := by unfold Instr.taken; rw [hrow.condition]
  rw [hcycles, hrow.length, cycleColumn_of, htaken]
  split <;> omega

end

/-- Every instruction that ends in a next state follows its row of the table. -/
theorem exec_followsTable {i : Instr} {s t : State} (hwf : i.wellFormed = true) (h : exec i s = .next t) :
    FollowsTable i s t := by
  cases row i with
  | ldReg dst src => exact (row_ldReg dst src).follows (loadReg_ran (exec_ldReg dst src s ▸ h))
  | ldImm dst n => exact (row_ldImm dst n).follows (loadImm_ran (exec_ldImm dst n s ▸ h))
  | ldRegAtHl dst => exact (row_ldRegAtHl dst).follows (loadFrom_ran (exec_ldRegAtHl dst s ▸ h))
  | ldAtHlReg src => exact (row_ldAtHlReg src).follows (storeTo_ran (exec_ldAtHlReg src s ▸ h))
  | alu op o => exact (row_alu op o).follows (aluOperand_ran (exec_alu op o s ▸ h))
  | aluImm op n => exact (row_aluImm op n).follows (aluImm_ran (exec_aluImm op n s ▸ h))
  | inc8 o => exact (row_inc8 o).follows (incOperand_ran (exec_inc8 o s ▸ h))
  | dec8 o => exact (row_dec8 o).follows (decOperand_ran (exec_dec8 o s ▸ h))
  | ldPair rr nn => exact (row_ldPair rr nn).follows (loadPair_ran (exec_ldPair rr nn s ▸ h))
  | incPair rr => exact (row_incPair rr).follows (addToPair_ran (exec_incPair rr s ▸ h))
  | decPair rr => exact (row_decPair rr).follows (addToPair_ran (exec_decPair rr s ▸ h))
  | addHl rr => exact (row_addHl rr).follows (addToHl_ran (exec_addHl rr s ▸ h))
  | push rr => exact (row_push rr).follows (pushPair_ran (exec_push rr s ▸ h))
  | pop rr => exact (row_pop rr).follows (popPair_ran (exec_pop rr s ▸ h))
  | jpCond cc nn => exact (row_jpCond cc nn).follows (jumpIf_ran (exec_jpCond cc nn s ▸ h))
  | jrCond cc e => exact (row_jrCond cc e).follows (jumpIf_ran (exec_jrCond cc e s ▸ h))
  | callCond cc nn => exact (row_callCond cc nn).follows (callIf_ran (exec_callCond cc nn s ▸ h))
  | retCond cc => exact (row_retCond cc).follows (returnIf_ran (exec_retCond cc s ▸ h))
  | rst y => exact (row_rst y).follows (callTo_ran (exec_rst y s ▸ h))
  | cbShift op o => exact (row_cbShift op o).follows (shiftOperand_ran (exec_cbShift op o s ▸ h))
  | cbBit k o => exact (row_cbBit k o).follows (testBit_ran (exec_cbBit k o s ▸ h))
  | cbRes k o => exact (row_cbRes k o).follows (rewriteOperand_ran (exec_cbRes k o s ▸ h))
  | cbSet k o => exact (row_cbSet k o).follows (rewriteOperand_ran (exec_cbSet k o s ▸ h))
  | nop => exact .of_flat 1 0 0 ⟨rfl, rfl, rfl⟩ (nop_ran h)
  | ldAtBcA | ldAtDeA | ldAtCA => exact .of_flat 1 4 0 ⟨rfl, rfl, rfl⟩ (storeTo_ran h)
  | rlca | rrca | rla | rra => exact .of_flat 1 0 0 ⟨rfl, rfl, rfl⟩ (shiftA_ran h)
  | ldAtNnSp nn => exact .of_flat 3 8 0 ⟨rfl, rfl, rfl⟩ (storeSp_ran h)
  | ldAAtBc | ldAAtDe | ldAAtC => exact .of_flat 1 4 0 ⟨rfl, rfl, rfl⟩ (loadFrom_ran h)
  | jrDisp e => exact .of_flat 2 0 4 ⟨rfl, rfl, rfl⟩ (jumpTo_ran h)
  | ldAtHlIncA | ldAtHlDecA => exact .of_flat 1 4 0 ⟨rfl, rfl, rfl⟩ (storeAStepping_ran h)
  | daa => exact .of_flat 1 0 0 ⟨rfl, rfl, rfl⟩ (decimalAdjust_ran h)
  | ldAAtHlInc | ldAAtHlDec => exact .of_flat 1 4 0 ⟨rfl, rfl, rfl⟩ (loadAStepping_ran h)
  | cplA => exact .of_flat 1 0 0 ⟨rfl, rfl, rfl⟩ (complementA_ran h)
  | ldAtHlN n | ldhAtNA n => exact .of_flat 2 4 0 ⟨rfl, rfl, rfl⟩ (storeTo_ran h)
  | scf => exact .of_flat 1 0 0 ⟨rfl, rfl, rfl⟩ (writeCarry_ran (rule := .set) rfl h)
  | ccf => exact .of_flat 1 0 0 ⟨rfl, rfl, rfl⟩ (writeCarry_ran (rule := .computed) trivial h)
  | halt => exact .of_flat 1 0 0 ⟨rfl, rfl, rfl⟩ (haltCpu_ran h)
  | jpNn nn => exact .of_flat 3 0 4 ⟨rfl, rfl, rfl⟩ (jumpTo_ran h)
  | ret => exact .of_flat 1 8 4 ⟨rfl, rfl, rfl⟩ (returnWith_ran h)
  | callNn nn => exact .of_flat 3 8 4 ⟨rfl, rfl, rfl⟩ (callTo_ran h)
  | reti => exact .of_flat 1 8 4 ⟨rfl, rfl, rfl⟩ (returnFromInterrupt_ran h)
  | addSpDisp e => exact .of_flat 2 0 8 ⟨rfl, rfl, rfl⟩ (addToSp_ran h)
  | jpHl => exact .of_flat 1 0 0 ⟨rfl, rfl, rfl⟩ (jumpHl_ran h)
  | ldAtNnA nn => exact .of_flat 3 4 0 ⟨rfl, rfl, rfl⟩ (storeTo_ran h)
  | ldhAAtN n => exact .of_flat 2 4 0 ⟨rfl, rfl, rfl⟩ (loadFrom_ran h)
  | di => exact .of_flat 1 0 0 ⟨rfl, rfl, rfl⟩ (disableInterrupts_ran h)
  | ldHlSpDisp e => exact .of_flat 2 0 4 ⟨rfl, rfl, rfl⟩ (loadHlSpDisp_ran h)
  | ldSpHl => exact .of_flat 1 0 4 ⟨rfl, rfl, rfl⟩ (loadSpFromHl_ran h)
  | ldAAtNn nn => exact .of_flat 3 4 0 ⟨rfl, rfl, rfl⟩ (loadFrom_ran h)
  | ei => exact .of_flat 1 0 0 ⟨rfl, rfl, rfl⟩ (enableInterrupts_ran h)
  | prefixCb op2 => cases hwf
  | stop => cases h
  | illegalD3 | illegalDB | illegalDD | illegalE3 | illegalE4 | illegalEB | illegalEC | illegalED
  | illegalF4 | illegalFC | illegalFD =>
    exact absurd h (raise_ne_next _ _ _)

/-- Settles O27: row by row, each shape's run treats the flags as the row's column allows. -/
theorem flagsFollowTheOpcodeTable : Obligations.FlagsFollowTheOpcodeTable := by
  intro i s t hwf h
  obtain ⟨hz, hn, hh, hc⟩ := (exec_followsTable hwf h).flags
  exact ⟨hz, hn, hh, hc⟩

/-- Settles O28: row by row, the fetch's cycles and those the shape's run adds are the cycles column's. -/
theorem cyclesFollowTheOpcodeTable : Obligations.CyclesFollowTheOpcodeTable := by
  intro i s t hwf h hfetch
  obtain ⟨column, added, hcolumn, htally, hsum⟩ := (exec_followsTable hwf h).cycles
  exact ⟨column, hcolumn, by rw [htally, hfetch, hsum]⟩

end Sys2Proof.Proofs
end

section
/-! The loads, stores, calls, returns and stack transfers: each statement's parts are the row's encoding and its shape's effect. -/

namespace Sys2Proof.Proofs

open Sys2Proof.Machine Sys2Proof.Safety Sys2Proof.Laws Sys2Proof.Claims

/-! ## Bytes, pairs and flags -/

/-- The I/O-page address as a sum (R108). -/
theorem ioAddr_eq_add (n : Byte) : ioAddr n = 0xFF00#16 + n.setWidth 16 := by
  apply BitVec.eq_of_toNat_eq
  have hn := n.isLt
  rw [ioAddr, toNat_wordOf, BitVec.toNat_add, BitVec.toNat_setWidth, BitVec.toNat_ofNat, BitVec.toNat_ofNat]
  omega

theorem loByte_getLsbD (v : Word) {k : Nat} (hk : k < 8) : (loByte v).getLsbD k = v.getLsbD k := by
  simp [loByte, hk]

/-- What a stack pair reads after it is written: AF has lost the low nibble (R21, R145). -/
theorem stackPair_setStackPair (rr : StackPair) (v : Word) (c : Cpu) :
    (c.setStackPair rr v).stackPair rr = if rr = .af then v &&& 0xFFF0#16 else v := by
  cases rr with
  | bc | de | hl => exact wordOf_hi_lo v
  | af => exact (congrArg (wordOf (hiByte v)) (toByte_ofByte (loByte v))).trans (wordOf_masked v)

/-! ## Encodings of the families -/

theorem encode_ldRegAtHl (dst : Reg8) : encode (Instr.ldRegAtHl dst) = [0b01#2 ++ regCode dst ++ 0b110#3] := by
  cases dst <;> rfl

theorem encode_ldAtHlReg (src : Reg8) : encode (Instr.ldAtHlReg src) = [0b01110#5 ++ regCode src] := by
  cases src <;> rfl

theorem encode_push (rr : StackPair) : encode (Instr.push rr) = [0b11#2 ++ stackPairCode rr ++ 0b0101#4] := by
  cases rr <;> rfl

theorem encode_pop (rr : StackPair) : encode (Instr.pop rr) = [0b11#2 ++ stackPairCode rr ++ 0b0001#4] := by
  cases rr <;> rfl

theorem encode_callCond (cc : Cond) (nn : Word) :
    encode (Instr.callCond cc nn) = [0b110#3 ++ condCode cc ++ 0b100#3, loByte nn, hiByte nn] := by
  cases cc <;> rfl

theorem encode_rst (y : Fin 8) : encode (Instr.rst y) = [0b11#2 ++ BitVec.ofNat 3 y.val ++ 0b111#3] := by
  fin_cases y <;> rfl

theorem encode_retCond (cc : Cond) : encode (Instr.retCond cc) = [0b110#3 ++ condCode cc ++ 0b000#3] := by
  cases cc <;> rfl

/-! ## Loads and stores -/

/-- Settles O3: each form's meaning is `loadFrom` at its address. -/
theorem loadsFromMemory : Obligations.LoadsFromMemory := by
  intro dst n nn s
  rw [← ioAddr_eq_add, ← ioAddr_eq_add]
  exact ⟨⟨encode_ldRegAtHl dst, loadsFrom_of_exec (exec_ldRegAtHl dst s)⟩,
    ⟨rfl, loadsFrom_of_exec (exec_ldAAtBc s)⟩,
    ⟨rfl, loadsFrom_of_exec (exec_ldAAtDe s)⟩,
    ⟨rfl, loadsFrom_of_exec (exec_ldAAtNn nn s)⟩,
    ⟨rfl, loadsFrom_of_exec (exec_ldhAAtN n s)⟩,
    ⟨rfl, loadsFrom_of_exec (exec_ldAAtC s)⟩⟩

/-- Settles O4: each form's meaning is `storeTo` at its address. -/
theorem storesToMemory : Obligations.StoresToMemory := by
  intro r n nn s
  rw [← ioAddr_eq_add, ← ioAddr_eq_add]
  exact ⟨⟨encode_ldAtHlReg r, storesTo_of_exec (exec_ldAtHlReg r s)⟩,
    ⟨rfl, storesTo_of_exec (exec_ldAtHlN n s)⟩,
    ⟨rfl, storesTo_of_exec (exec_ldAtBcA s)⟩,
    ⟨rfl, storesTo_of_exec (exec_ldAtDeA s)⟩,
    ⟨rfl, storesTo_of_exec (exec_ldAtNnA nn s)⟩,
    ⟨rfl, storesTo_of_exec (exec_ldhAtNA n s)⟩,
    ⟨rfl, storesTo_of_exec (exec_ldAtCA s)⟩⟩

/-! ## PUSH and POP -/

/-- Settles O8: PUSH is the push with a tail that only ticks. -/
theorem pushStoresThePair : Obligations.PushStoresThePair := fun rr s =>
  ⟨encode_push rr, pushes_of_exec (exec_push rr s) (tickHw_bus 4) (by simp) (fun _ => trivial) (kept_tickHw 4)⟩

/-- Settles O9: POP is the pop with a tail that writes the pair. -/
theorem popLoadsThePair : Obligations.PopLoadsThePair := by
  intro rr s
  refine ⟨encode_pop rr, pops_of_exec (exec_pop rr s) (fun v u => setStackPair_sp rr v u.cpu) (fun v u => ?_) (fun v u => ?_)⟩
  · refine ⟨stackPair_setStackPair rr v u.cpu, ?_⟩
    rintro rfl
    exact ⟨loByte_getLsbD v (by decide), loByte_getLsbD v (by decide), loByte_getLsbD v (by decide),
      loByte_getLsbD v (by decide)⟩
  · rw [hardwareOnly_zero]
    exact kept_setStackPair rr v u

/-! ## Calls and returns -/

section
variable {i : Instr} {s : State}

theorem pushes_of_callTo {target : Word} {also : State → Prop} (hi : exec i s = callTo target s)
    (halso : ∀ t : State, t.cpu.pc = target → also t) : Pushes i s.cpu.pc [.pc] 4 also s :=
  pushes_of_exec hi (by simp) (by simp) (fun u => halso _ (by simp)) (kept_jump target 4)

theorem pops_of_returnWith {extra : Nat} (hi : exec i s = returnWith extra s) :
    Pops i [.pc] extra (fun v t => t.cpu.pc = v) s :=
  pops_of_exec hi (by simp) (by simp) (fun v => kept_jump v extra)

end

/-- Settles O22: a call taken is `callTo`, a call not taken ends in the same state. -/
theorem callsAndRestarts : Obligations.CallsAndRestarts := by
  intro cc nn y s
  refine ⟨⟨rfl, pushes_of_callTo (exec_callNn nn s) fun t ht => ht⟩,
    ⟨encode_callCond cc nn, fun hc => ?_, fun hc => ?_⟩,
    ⟨encode_rst y, pushes_of_callTo (exec_rst y s) fun t ht => ?_⟩⟩
  · exact pushes_of_callTo ((exec_callCond cc nn s).trans (if_pos hc)) fun t ht => ht
  · exact ⟨s, (exec_callCond cc nn s).trans (if_neg (by simp [hc])), trivial, kept_refl s⟩
  · rw [ht, BitVec.toNat_ofNat]
    omega

/-- Settles O23: a return taken is `returnWith`, a return not taken only ticks, RETI's tail writes the latches besides. -/
theorem returns : Obligations.Returns := by
  intro cc s
  refine ⟨⟨rfl, pops_of_returnWith (exec_ret s)⟩, ⟨encode_retCond cc, fun hc => ?_, fun hc => ?_⟩, ⟨rfl, ?_⟩⟩
  · exact pops_of_returnWith ((exec_retCond cc s).trans (if_pos hc))
  · exact ⟨s.tickHw 4, (exec_retCond cc s).trans (if_neg (by simp [hc])), trivial, kept_tickHw 4 s⟩
  · exact pops_of_exec (exec_reti s) (by simp) (by simp) kept_resume_tickHw

end Sys2Proof.Proofs
end

section
/-! How operations end. An outcome is a next state with a property, or a stop that carries its state with the stop recorded
(`Concludes`); each shared operation is said once to end so. From these, what one instruction does beside its result
(`exec_concludes`): its byte writes, its cycles and the interrupt latches. -/

namespace Sys2Proof.Proofs

open Sys2Proof.Machine Sys2Proof.Safety Sys2Proof.Laws Sys2Proof.Claims

/-! ## Outcomes -/

/-- The outcome is a next state that holds `N`, or a stop recorded in the state it carries with `cycles` as the total (R29, R237):
a fault, or the refusal of STOP. -/
inductive Concludes (cycles : Nat) (N : State → Prop) : Out → Prop where
  | next {t : State} (h : N t) : Concludes cycles N (.next t)
  | fault {kind : FaultKind} {final : State} (hs : final.status = .faulted kind) (hc : final.cycles = cycles) :
    Concludes cycles N (.fault (kind.toFault final))
  | refused {addr : Word} {final : State} (hs : final.status = .unmodelled addr 0x10#8) (hc : final.cycles = cycles) :
    Concludes cycles N (.refused (.unmodelled addr 0x10#8 final))

section
variable {n : Nat} {M N : State → Prop} {s : State} {o : Out}

theorem Concludes.of_next {t : State} (h : Concludes n N o) (ho : o = .next t) : N t := by
  subst ho
  cases h with
  | next h => exact h

theorem Concludes.mono (h : Concludes n M o) (hMN : ∀ t, M t → N t) : Concludes n N o := by
  cases h with
  | next h => exact .next (hMN _ h)
  | fault hs hc => exact .fault hs hc
  | refused hs hc => exact .refused hs hc

theorem Concludes.afterInstruction (h : Concludes n M o) (hfinish : ∀ t, M t → Concludes n N (finishStep t)) :
    Concludes n N (afterInstruction o) := by
  cases h with
  | next h => exact hfinish _ h
  | fault hs hc => exact .fault hs hc
  | refused hs hc => exact .refused hs hc

theorem raise_concludes (kind : FaultKind) (hc : s.cycles = n) : Concludes n N (raise kind s) := .fault rfl hc

theorem readThen_concludes {addr : Word} {rest : Byte → State → Out} (hc : s.cycles = n)
    (h : ∀ v, Concludes n N (rest v (s.tick 4))) : Concludes n N (readThen addr s rest) := by
  cases hr : s.bus.read addr with
  | error kind => rw [readThen_error hr]; exact raise_concludes kind hc
  | ok v => rw [readThen_ok hr]; exact h v

theorem writeThen_concludes {addr : Word} {v : Byte} {rest : State → Out} (hc : s.cycles = n)
    (h : ∀ b, s.bus.write addr v = .ok b → Concludes n N (rest ((s.withBus b).tick 4))) :
    Concludes n N (writeThen addr v s rest) := by
  cases hw : s.bus.write addr v with
  | error kind => rw [writeThen_error hw]; exact raise_concludes kind hc
  | ok b => rw [writeThen_ok hw]; exact h b hw

theorem push16Then_concludes {v : Word} {rest : State → Out} (hc : s.cycles = n)
    (h : ∀ b b', s.bus.write (s.cpu.sp - 1#16) (hiByte v) = .ok b → b.write (s.cpu.sp - 2#16) (loByte v) = .ok b' →
      Concludes n N (rest (stackState (s.cpu.sp - 2#16) b' 8 s))) : Concludes n N (push16Then v s rest) := by
  cases hb : s.bus.write (s.cpu.sp - 1#16) (hiByte v) with
  | error kind => rw [push16Then_first hb]; exact raise_concludes kind hc
  | ok b =>
    cases hb' : b.write (s.cpu.sp - 2#16) (loByte v) with
    | error kind => rw [push16Then_second hb hb']; exact raise_concludes kind hc
    | ok b' => rw [push16Then_ok hb hb']; exact h b b' hb hb'

theorem pop16Then_concludes {rest : Word → State → Out} (hc : s.cycles = n)
    (h : ∀ v, Concludes n N (rest v (stackState (s.cpu.sp + 2#16) s.bus 8 s))) : Concludes n N (pop16Then s rest) := by
  cases hlo : s.bus.read s.cpu.sp with
  | error kind => rw [pop16Then_first hlo]; exact raise_concludes kind hc
  | ok lo =>
    cases hhi : s.bus.read (s.cpu.sp + 1#16) with
    | error kind => rw [pop16Then_second hlo hhi]; exact raise_concludes kind hc
    | ok hi => rw [pop16Then_ok hlo hhi]; exact h _

end

/-! ## What an instruction does beside its result -/

/-- From `s` to `t` the bus has changed by byte writes alone, the tally has grown by whole machine cycles, and the total and the
status have stayed. -/
structure Moved (s t : State) : Prop where
  stored : ∃ stores, writeAll stores s.bus = .ok t.bus
  tally : ∃ k, t.tally = s.tally + 4 * k
  cycles : t.cycles = s.cycles
  status : t.status = s.status

/-- The interrupt latches have stayed. -/
structure SameLatches (c c' : Cpu) : Prop where
  ime : c'.ime = c.ime
  halted : c'.halted = c.halted
  eiPending : c'.eiPending = c.eiPending

/-- What an instruction that writes no interrupt latch does. -/
structure Quiet (s t : State) : Prop extends Moved s t where
  latches : SameLatches s.cpu t.cpu

theorem moved_refl (s : State) : Moved s s := ⟨⟨[], rfl⟩, ⟨0, rfl⟩, rfl, rfl⟩

theorem quiet_refl (s : State) : Quiet s s := ⟨moved_refl s, rfl, rfl, rfl⟩

theorem writeAll_append (l l' : List (Word × Byte)) {b b' : Bus} (h : writeAll l b = .ok b') :
    writeAll (l ++ l') b = writeAll l' b' := by
  induction l generalizing b with
  | nil => cases h; rfl
  | cons p rest ih =>
    simp only [writeAll, List.cons_append] at h ⊢
    split at h
    · cases h
    · exact ih h

theorem writeAll_singleton {a : Word} {v : Byte} {b b' : Bus} (h : b.write a v = .ok b') : writeAll [(a, v)] b = .ok b' := by
  simp only [writeAll, h]

section
variable {s t : State}

theorem Moved.withCpu (h : Moved s t) (c : Cpu) : Moved s (t.withCpu c) := ⟨h.stored, h.tally, h.cycles, h.status⟩

theorem Moved.tick (h : Moved s t) (k : Nat) : Moved s (t.tick (4 * k)) where
  stored := h.stored
  tally := by obtain ⟨j, hj⟩ := h.tally; exact ⟨j + k, by rw [tick_tally, hj]; omega⟩
  cycles := h.cycles
  status := h.status

theorem Moved.tickHw (h : Moved s t) (k : Nat) : Moved s (t.tickHw (4 * k)) := by
  unfold State.tickHw
  split
  · exact h
  · exact h.tick k

theorem Moved.withBus (h : Moved s t) {a : Word} {v : Byte} {b : Bus} (hb : t.bus.write a v = .ok b) :
    Moved s (t.withBus b) where
  stored := by
    obtain ⟨stores, hs⟩ := h.stored
    exact ⟨stores ++ [(a, v)], (writeAll_append _ _ hs).trans (writeAll_singleton hb)⟩
  tally := h.tally
  cycles := h.cycles
  status := h.status

/-- A push's writes of SP, the bus and the tally. -/
theorem Moved.pushed (h : Moved s t) {a a' : Word} {v v' : Byte} {b b' : Bus} (hb : t.bus.write a v = .ok b)
    (hb' : b.write a' v' = .ok b') (sp : Word) : Moved s (stackState sp b' 8 t) :=
  (((h.withBus hb).withBus hb').tick 2).withCpu { t.cpu with sp := sp }

/-- A pop's writes of SP and the tally. -/
theorem Moved.popped (h : Moved s t) (sp : Word) : Moved s (stackState sp t.bus 8 t) :=
  (h.tick 2).withCpu { t.cpu with sp := sp }

theorem Quiet.withCpu (h : Quiet s t) (c : Cpu) (hc : SameLatches t.cpu c := by exact ⟨rfl, rfl, rfl⟩) :
    Quiet s (t.withCpu c) :=
  ⟨h.toMoved.withCpu c, hc.ime.trans h.latches.ime, hc.halted.trans h.latches.halted, hc.eiPending.trans h.latches.eiPending⟩

theorem Quiet.tick (h : Quiet s t) (k : Nat) : Quiet s (t.tick (4 * k)) := ⟨h.toMoved.tick k, h.latches⟩

theorem Quiet.tickHw (h : Quiet s t) (k : Nat) : Quiet s (t.tickHw (4 * k)) :=
  ⟨h.toMoved.tickHw k, by rw [tickHw_cpu]; exact h.latches⟩

theorem Quiet.setPc (h : Quiet s t) (v : Word) : Quiet s (t.setPc v) := h.withCpu _

theorem Quiet.setReg (h : Quiet s t) (r : Reg8) (v : Byte) : Quiet s (t.withCpu (t.cpu.setReg r v)) :=
  h.withCpu _ ⟨by simp, by simp, by simp⟩

theorem Quiet.setFlags (h : Quiet s t) (f : Flags) : Quiet s (t.setFlags f) := h.withCpu _

theorem Quiet.written (h : Quiet s t) {a : Word} {v : Byte} {b : Bus} (hb : t.bus.write a v = .ok b) :
    Quiet s ((t.withBus b).tick 4) := ⟨(h.toMoved.withBus hb).tick 1, h.latches⟩

theorem Quiet.pushed (h : Quiet s t) {a a' : Word} {v v' : Byte} {b b' : Bus} (hb : t.bus.write a v = .ok b)
    (hb' : b.write a' v' = .ok b') (sp : Word) : Quiet s (stackState sp b' 8 t) :=
  ⟨h.toMoved.pushed hb hb' sp, h.latches.ime, h.latches.halted, h.latches.eiPending⟩

theorem Quiet.popped (h : Quiet s t) (sp : Word) : Quiet s (stackState sp t.bus 8 t) :=
  ⟨h.toMoved.popped sp, h.latches.ime, h.latches.halted, h.latches.eiPending⟩

end

/-! ## The shapes that write no latch -/

section
variable {s : State}

theorem loadReg_quiet (dst src : Reg8) : Concludes s.cycles (Quiet s) (loadReg dst src s) :=
  .next ((quiet_refl s).setReg dst _)

theorem loadImm_quiet (dst : Reg8) (n : Byte) : Concludes s.cycles (Quiet s) (loadImm dst n s) :=
  .next ((quiet_refl s).setReg dst n)

theorem loadPair_quiet (rr : Pair) (nn : Word) : Concludes s.cycles (Quiet s) (loadPair rr nn s) :=
  .next ((quiet_refl s).withCpu _ ⟨by simp, by simp, by simp⟩)

theorem loadSpFromHl_quiet : Concludes s.cycles (Quiet s) (loadSpFromHl s) :=
  .next (((quiet_refl s).withCpu _).tickHw 1)

theorem loadFrom_quiet (dst : Reg8) (addr : Word) : Concludes s.cycles (Quiet s) (loadFrom dst addr s) :=
  readThen_concludes rfl fun v => .next (((quiet_refl s).tick 1).setReg dst v)

theorem storeTo_quiet (addr : Word) (v : Byte) : Concludes s.cycles (Quiet s) (storeTo addr v s) :=
  writeThen_concludes rfl fun _ hb => .next ((quiet_refl s).written hb)

theorem loadAStepping_quiet (delta : Word) : Concludes s.cycles (Quiet s) (loadAStepping delta s) :=
  readThen_concludes rfl fun _ => .next (((quiet_refl s).tick 1).withCpu _)

theorem storeAStepping_quiet (delta : Word) : Concludes s.cycles (Quiet s) (storeAStepping delta s) :=
  writeThen_concludes rfl fun _ hb => .next (((quiet_refl s).written hb).withCpu _)

theorem storeSp_quiet (addr : Word) : Concludes s.cycles (Quiet s) (storeSp addr s) :=
  writeThen_concludes rfl fun _ hb => writeThen_concludes rfl fun _ hb' => .next (((quiet_refl s).written hb).written hb')

theorem aluImm_quiet (op : AluOp) (n : Byte) : Concludes s.cycles (Quiet s) (aluImm op n s) :=
  .next ((quiet_refl s).withCpu _)

theorem decimalAdjust_quiet : Concludes s.cycles (Quiet s) (decimalAdjust s) :=
  .next ((quiet_refl s).withCpu _)

theorem complementA_quiet : Concludes s.cycles (Quiet s) (complementA s) :=
  .next ((quiet_refl s).withCpu _)

theorem writeCarry_quiet (c : Bool) : Concludes s.cycles (Quiet s) (writeCarry c s) := .next ((quiet_refl s).setFlags _)

theorem shiftA_quiet (op : ShiftOp) : Concludes s.cycles (Quiet s) (shiftA op s) :=
  .next ((quiet_refl s).withCpu _)

theorem addToPair_quiet (rr : Pair) (delta : Word) : Concludes s.cycles (Quiet s) (addToPair rr delta s) :=
  .next (((quiet_refl s).withCpu _ ⟨by simp, by simp, by simp⟩).tickHw 1)

theorem addToHl_quiet (rr : Pair) : Concludes s.cycles (Quiet s) (addToHl rr s) :=
  .next (((quiet_refl s).withCpu _).tickHw 1)

theorem addToSp_quiet (e : Byte) : Concludes s.cycles (Quiet s) (addToSp e s) :=
  .next (((quiet_refl s).withCpu _).tickHw 2)

theorem loadHlSpDisp_quiet (e : Byte) : Concludes s.cycles (Quiet s) (loadHlSpDisp e s) :=
  .next (((quiet_refl s).withCpu _).tickHw 1)

/-! Operands: a register is read and written in the CPU, the byte at HL over the bus. -/

theorem readOperandThen_quiet (o : Operand8) {rest : Byte → State → Out}
    (h : ∀ v t, Quiet s t → Concludes s.cycles (Quiet s) (rest v t)) :
    Concludes s.cycles (Quiet s) (readOperandThen o s rest) := by
  cases o with
  | reg r => exact h _ s (quiet_refl s)
  | atHl => exact readThen_concludes rfl fun v => h v _ ((quiet_refl s).tick 1)

theorem writeOperandThen_quiet (o : Operand8) (v : Byte) {t : State} {rest : State → Out} (ht : Quiet s t)
    (h : ∀ u, Quiet s u → Concludes s.cycles (Quiet s) (rest u)) :
    Concludes s.cycles (Quiet s) (writeOperandThen o v t rest) := by
  cases o with
  | reg r => exact h _ (ht.setReg r v)
  | atHl => exact writeThen_concludes ht.cycles fun b hb => h _ (ht.written hb)

theorem aluOperand_quiet (op : AluOp) (o : Operand8) : Concludes s.cycles (Quiet s) (aluOperand op o s) :=
  readOperandThen_quiet o fun _ _ ht => .next (ht.withCpu _)

theorem modifyOperand_quiet (o : Operand8) (value : Byte → Byte) (flags : Byte → Flags) :
    Concludes s.cycles (Quiet s) (modifyOperand o value flags s) :=
  readOperandThen_quiet o fun v _ ht => writeOperandThen_quiet o (value v) ht fun _ hu => .next (hu.setFlags _)

theorem rewriteOperand_quiet (o : Operand8) (value : Byte → Byte) :
    Concludes s.cycles (Quiet s) (rewriteOperand o value s) :=
  readOperandThen_quiet o fun v _ ht => writeOperandThen_quiet o (value v) ht fun _ hu => .next hu

theorem testBit_quiet (k : Fin 8) (o : Operand8) : Concludes s.cycles (Quiet s) (testBit k o s) :=
  readOperandThen_quiet o fun _ _ ht => .next (ht.setFlags _)

theorem execPrefixCb_quiet (op2 : Byte) : Concludes s.cycles (Quiet s) (execPrefixCb op2 s) := by
  unfold execPrefixCb
  split
  · exact modifyOperand_quiet _ _ _
  · exact testBit_quiet _ _
  · exact rewriteOperand_quiet _ _
  · exact rewriteOperand_quiet _ _

/-! Jumps, calls, returns and the stack. -/

theorem jumpTo_quiet (target : Word) : Concludes s.cycles (Quiet s) (jumpTo target s) :=
  .next (((quiet_refl s).setPc target).tickHw 1)

theorem jumpIf_quiet (cc : Cond) (target : Word) : Concludes s.cycles (Quiet s) (jumpIf cc target s) := by
  unfold jumpIf
  split
  · exact jumpTo_quiet target
  · exact .next (quiet_refl s)

theorem callTo_quiet (target : Word) : Concludes s.cycles (Quiet s) (callTo target s) :=
  push16Then_concludes rfl fun _ _ hb hb' => .next ((((quiet_refl s).pushed hb hb' _).setPc target).tickHw 1)

theorem callIf_quiet (cc : Cond) (target : Word) : Concludes s.cycles (Quiet s) (callIf cc target s) := by
  unfold callIf
  split
  · exact callTo_quiet target
  · exact .next (quiet_refl s)

theorem returnWith_quiet (k : Nat) : Concludes s.cycles (Quiet s) (returnWith (4 * k) s) :=
  pop16Then_concludes rfl fun v => .next ((((quiet_refl s).popped _).setPc v).tickHw k)

theorem returnIf_quiet (cc : Cond) : Concludes s.cycles (Quiet s) (returnIf cc s) := by
  unfold returnIf
  split
  · exact returnWith_quiet 2
  · exact .next ((quiet_refl s).tickHw 1)

theorem pushPair_quiet (rr : StackPair) : Concludes s.cycles (Quiet s) (pushPair rr s) :=
  push16Then_concludes rfl fun _ _ hb hb' => .next (((quiet_refl s).pushed hb hb' _).tickHw 1)

theorem popPair_quiet (rr : StackPair) : Concludes s.cycles (Quiet s) (popPair rr s) :=
  pop16Then_concludes rfl fun v => .next (((quiet_refl s).popped _).withCpu _ ⟨by simp, by simp, by simp⟩)

end

/-! ## Every instruction -/

/-- What an instruction does to the interrupt latches (R215 to R219, R211): only DI, EI, RETI and HALT write one. -/
inductive LatchEffect (s t : State) : Instr → Prop where
  | kept {i : Instr} (h : SameLatches s.cpu t.cpu) : LatchEffect s t i
  | di (hime : t.cpu.ime = false) (hhalted : t.cpu.halted = s.cpu.halted) (hei : t.cpu.eiPending = 0#2) : LatchEffect s t .di
  | reti (hime : t.cpu.ime = true) (hhalted : t.cpu.halted = s.cpu.halted) (hei : t.cpu.eiPending = 0#2) :
    LatchEffect s t .reti
  | ei (hdelay : s.bus.params.eiDelay = false) (hime : t.cpu.ime = true) (hhalted : t.cpu.halted = s.cpu.halted)
    (hei : t.cpu.eiPending = s.cpu.eiPending) : LatchEffect s t .ei
  | eiDelayed (hdelay : s.bus.params.eiDelay = true) (hoff : s.cpu.ime = false) (hime : t.cpu.ime = false)
    (hhalted : t.cpu.halted = s.cpu.halted) (hei : t.cpu.eiPending = 2#2) : LatchEffect s t .ei
  | halt (htaken : haltTaken s = true) (hime : t.cpu.ime = s.cpu.ime) (hei : t.cpu.eiPending = s.cpu.eiPending) :
    LatchEffect s t .halt

/-- What an instruction that ends in `t` does beside its result. -/
structure Executed (i : Instr) (s t : State) : Prop extends Moved s t where
  latches : LatchEffect s t i

theorem Quiet.executed {i : Instr} {s t : State} (h : Quiet s t) : Executed i s t := ⟨h.toMoved, .kept h.latches⟩

section
variable {s : State}

theorem disableInterrupts_concludes : Concludes s.cycles (Executed .di s) (disableInterrupts s) :=
  .next ⟨(moved_refl s).withCpu _, .di rfl rfl rfl⟩

theorem enableInterrupts_concludes : Concludes s.cycles (Executed .ei s) (enableInterrupts s) := by
  unfold enableInterrupts
  cases hdelay : s.bus.params.eiDelay with
  | false => exact .next ⟨(moved_refl s).withCpu _, .ei hdelay rfl rfl rfl⟩
  | true =>
    cases hime : s.cpu.ime with
    | false => exact .next ⟨(moved_refl s).withCpu _, .eiDelayed hdelay hime hime rfl rfl⟩
    | true => exact .next (quiet_refl s).executed

theorem haltCpu_concludes : Concludes s.cycles (Executed .halt s) (haltCpu s) := by
  unfold haltCpu
  split
  case isTrue htaken => exact .next ⟨(moved_refl s).withCpu _, .halt htaken rfl rfl⟩
  case isFalse => exact .next (quiet_refl s).executed

theorem returnFromInterrupt_concludes : Concludes s.cycles (Executed .reti s) (returnFromInterrupt s) :=
  pop16Then_concludes rfl fun v =>
    .next ⟨(((moved_refl s).popped _).withCpu _).tickHw 1, .reti (by simp) (by simp [stackState]) (by simp)⟩

end

/-- Every instruction ends with the effects of `Executed`, or in a recorded stop. -/
theorem exec_concludes (i : Instr) (s : State) : Concludes s.cycles (Executed i s) (exec i s) := by
  have quiet : Concludes s.cycles (Quiet s) (exec i s) → Concludes s.cycles (Executed i s) (exec i s) :=
    fun h => h.mono fun _ => Quiet.executed
  cases row i with
  | ldReg dst src => exact quiet (exec_ldReg dst src s ▸ loadReg_quiet dst src)
  | ldImm dst n => exact quiet (exec_ldImm dst n s ▸ loadImm_quiet dst n)
  | ldRegAtHl dst => exact quiet (exec_ldRegAtHl dst s ▸ loadFrom_quiet dst _)
  | ldAtHlReg src => exact quiet (exec_ldAtHlReg src s ▸ storeTo_quiet _ _)
  | alu op o => exact quiet (exec_alu op o s ▸ aluOperand_quiet op o)
  | aluImm op n => exact quiet (exec_aluImm op n s ▸ aluImm_quiet op n)
  | inc8 o => exact quiet (exec_inc8 o s ▸ modifyOperand_quiet o _ _)
  | dec8 o => exact quiet (exec_dec8 o s ▸ modifyOperand_quiet o _ _)
  | ldPair rr nn => exact quiet (exec_ldPair rr nn s ▸ loadPair_quiet rr nn)
  | incPair rr => exact quiet (exec_incPair rr s ▸ addToPair_quiet rr _)
  | decPair rr => exact quiet (exec_decPair rr s ▸ addToPair_quiet rr _)
  | addHl rr => exact quiet (exec_addHl rr s ▸ addToHl_quiet rr)
  | push rr => exact quiet (exec_push rr s ▸ pushPair_quiet rr)
  | pop rr => exact quiet (exec_pop rr s ▸ popPair_quiet rr)
  | jpCond cc nn => exact quiet (exec_jpCond cc nn s ▸ jumpIf_quiet cc nn)
  | jrCond cc e => exact quiet (exec_jrCond cc e s ▸ jumpIf_quiet cc _)
  | callCond cc nn => exact quiet (exec_callCond cc nn s ▸ callIf_quiet cc nn)
  | retCond cc => exact quiet (exec_retCond cc s ▸ returnIf_quiet cc)
  | rst y => exact quiet (exec_rst y s ▸ callTo_quiet _)
  | cbShift op o => exact quiet (exec_cbShift op o s ▸ modifyOperand_quiet o _ _)
  | cbBit k o => exact quiet (exec_cbBit k o s ▸ testBit_quiet k o)
  | cbRes k o => exact quiet (exec_cbRes k o s ▸ rewriteOperand_quiet o _)
  | cbSet k o => exact quiet (exec_cbSet k o s ▸ rewriteOperand_quiet o _)
  | nop => exact quiet (.next (quiet_refl s))
  | ldAtBcA | ldAtDeA | ldAtCA | ldAtHlN n | ldhAtNA n | ldAtNnA nn => exact quiet (storeTo_quiet _ _)
  | ldAAtBc | ldAAtDe | ldAAtC | ldhAAtN n | ldAAtNn nn => exact quiet (loadFrom_quiet _ _)
  | rlca | rrca | rla | rra => exact quiet (shiftA_quiet _)
  | ldAtNnSp nn => exact quiet (storeSp_quiet nn)
  | jrDisp e => exact quiet (jumpTo_quiet _)
  | ldAtHlIncA | ldAtHlDecA => exact quiet (storeAStepping_quiet _)
  | ldAAtHlInc | ldAAtHlDec => exact quiet (loadAStepping_quiet _)
  | daa => exact quiet decimalAdjust_quiet
  | cplA => exact quiet complementA_quiet
  | scf | ccf => exact quiet (writeCarry_quiet _)
  | jpNn nn => exact quiet (jumpTo_quiet nn)
  | jpHl => exact quiet (.next ((quiet_refl s).setPc _))
  | ret => exact quiet (returnWith_quiet 1)
  | callNn nn => exact quiet (callTo_quiet nn)
  | addSpDisp e => exact quiet (addToSp_quiet e)
  | ldHlSpDisp e => exact quiet (loadHlSpDisp_quiet e)
  | ldSpHl => exact quiet loadSpFromHl_quiet
  | prefixCb op2 => exact quiet (execPrefixCb_quiet op2)
  | di => exact disableInterrupts_concludes
  | ei => exact enableInterrupts_concludes
  | halt => exact haltCpu_concludes
  | reti => exact returnFromInterrupt_concludes
  | stop => exact .refused rfl rfl
  | illegalD3 | illegalDB | illegalDD | illegalE3 | illegalE4 | illegalEB | illegalEC | illegalED
  | illegalF4 | illegalFC | illegalFD => exact raise_concludes _ rfl

theorem Moved.writeFrame {s t : State} (h : Moved s t) : WriteFrame s.bus t.bus := by
  obtain ⟨stores, hs⟩ := h.stored
  exact writeAll_frame hs

/-- Settles O31: an instruction's effect on the latches names the four that write one, and its effect on the bus is a run of byte
writes. -/
theorem onlyTheirOwnInstructionsWriteTheLatches : Obligations.OnlyTheirOwnInstructionsWriteTheLatches := by
  intro i s t h
  have hdone := (exec_concludes i s).of_next h
  have hbus := hdone.writeFrame
  refine ⟨fun hne => ?_, fun hne => ?_, hbus.params, hbus.rom, hbus.romCode, hbus.ramSize, hbus.boot, hbus.keys, hbus.booting⟩
  · cases hdone.latches with
    | kept hsame => exact (hne.elim (absurd hsame.ime) (absurd hsame.eiPending))
    | halt _ hime hei => exact hne.elim (absurd hime) (absurd hei)
    | _ => simp
  · cases hdone.latches with
    | kept hsame => exact absurd hsame.halted hne
    | halt => rfl
    | _ => contradiction

end Sys2Proof.Proofs
end

section
/-! The step. The fetch byte by byte, the poll's two endings and the choice of a step are each said once; from them follow what a
step does to the tally, the total and the status, and what a halted step and the EI count do. -/

namespace Sys2Proof.Proofs

open Sys2Proof.Machine Sys2Proof.Safety Sys2Proof.Laws Sys2Proof.Claims

/-! ## The fetch (30_encoding.md R112) -/

section
variable {N : State → Prop} {c : Nat} {s : State}

theorem fetch8Then_error {kind : FaultKind} (h : s.bus.read s.cpu.pc = .error kind) (rest : Byte → State → Out) :
    fetch8Then s rest = raise kind s := readThen_error h _

/-- The opcode fetch leaves one byte fetched, and the boot latch as the opcode's address has it. -/
theorem fetchOpcodeThen_ok {op : Byte} (h : s.bus.read s.cpu.pc = .ok op) (rest : Byte → State → Out) :
    fetchOpcodeThen s rest = rest op (fetched 1 s) := fetch8Then_ok h _

theorem fetchOpcodeThen_error {kind : FaultKind} (h : s.bus.read s.cpu.pc = .error kind) (rest : Byte → State → Out) :
    fetchOpcodeThen s rest = raise kind s := fetch8Then_error h _

/-- One operand byte more. -/
theorem fetch8Then_fetched_ok {n : Nat} {v : Byte}
    (h : (s.bus.afterOpcodeFetch s.cpu.pc).read (s.cpu.pc + BitVec.ofNat 16 n) = .ok v) (rest : Byte → State → Out) :
    fetch8Then (fetched n s) rest = rest v (fetched (n + 1) s) := by
  have hpc : s.cpu.pc + BitVec.ofNat 16 (n + 1) = s.cpu.pc + BitVec.ofNat 16 n + 1#16 := by
    rw [BitVec.ofNat_add, BitVec.add_assoc]
  rw [fetch8Then_ok (s := fetched n s) h]
  unfold fetched
  rw [hpc]
  rfl

theorem fetch8Then_fetched_error {n : Nat} {kind : FaultKind}
    (h : (s.bus.afterOpcodeFetch s.cpu.pc).read (s.cpu.pc + BitVec.ofNat 16 n) = .error kind) (rest : Byte → State → Out) :
    fetch8Then (fetched n s) rest = raise kind (fetched n s) := fetch8Then_error h rest

theorem fetch8Then_fetched_concludes {rest : Byte → State → Out} {n : Nat}
    (h : ∀ v, Concludes s.cycles N (rest v (fetched (n + 1) s))) :
    Concludes s.cycles N (fetch8Then (fetched n s) rest) := by
  cases hr : (s.bus.afterOpcodeFetch s.cpu.pc).read (s.cpu.pc + BitVec.ofNat 16 n) with
  | error kind => rw [fetch8Then_fetched_error hr]; exact raise_concludes kind rfl
  | ok v => rw [fetch8Then_fetched_ok hr]; exact h v

/-- A fetch hands an instruction on after one to three bytes, or stops in a recorded fault. -/
theorem fetchThen_concludes {rest : Instr → State → Out}
    (h : ∀ i n, 0 < n → n < 4 → Concludes s.cycles N (rest i (fetched n s))) :
    Concludes s.cycles N (fetchThen s rest) := by
  unfold fetchThen
  cases hop : s.bus.read s.cpu.pc with
  | error kind => rw [fetchOpcodeThen_error hop]; exact raise_concludes kind rfl
  | ok op =>
    rw [fetchOpcodeThen_ok hop]
    cases decodeOpcode op with
    | f1 i => exact h i 1 (by decide) (by decide)
    | f2 make => exact fetch8Then_fetched_concludes fun v => h _ 2 (by decide) (by decide)
    | f3 make =>
      exact fetch8Then_fetched_concludes fun lo => fetch8Then_fetched_concludes fun hi =>
        h _ 3 (by decide) (by decide)

end

/-! ## The poll (60_exceptions.md R252 to R255) -/

/-- What a shape adds under `Hardware` is added to the tally. -/
theorem tickHw_eq_tick (n : Nat) (s : State) : s.tickHw n = s.tick (hardwareOnly n s) := by
  cases h : s.bus.params.timing <;> simp [State.tickHw, hardwareOnly, h, State.tick]

theorem serviceCost_congr {s t : State} (h : t.bus.params = s.bus.params) : serviceCost t = serviceCost s :=
  congrArg (16 + ·) (hardwareOnly_congr 4 h)

/-- The state in which a step ends that serviced source `i`, the push having left the bus `b` (R253, R254). -/
def served (i : Fin 5) (b : Bus) (s : State) : State :=
  { cpu := { s.cpu with sp := s.cpu.sp - 2#16, pc := vector i, ime := false, halted := false, eiPending := 0#2 }
    bus := b.update (serviceCost s)
    tally := s.tally + serviceCost s
    cycles := s.cycles + (s.tally + serviceCost s)
    status := s.status }

section
variable {N : State → Prop} {s : State} {i : Fin 5}

theorem poll_idle (h : s.cpu.ime = false ∨ s.bus.pending = none) : poll s = .next (s.close s.tally) := by
  unfold poll
  split
  case h_1 hime hpending => simp [hime, hpending] at h
  case h_2 => rfl

theorem poll_service (hime : s.cpu.ime = true) (hp : s.bus.pending = some i) :
    poll s = serviceThen i s fun s' => .next ((s'.update s'.tally).close (s.tally + s'.tally)) := by
  unfold poll
  rw [hime, hp]

/-- A poll that services a source and whose push completes. -/
theorem poll_served {b b' : Bus} (hime : s.cpu.ime = true) (hp : s.bus.pending = some i)
    (hb : (s.acknowledge i).bus.write (s.cpu.sp - 1#16) (hiByte s.cpu.pc) = .ok b)
    (hb' : b.write (s.cpu.sp - 2#16) (loByte s.cpu.pc) = .ok b') : poll s = .next (served i b' s) := by
  have hparams : b'.params = s.bus.params := (write_frame hb').params.trans (write_frame hb).params
  have hcost : ∀ u : State, u.bus = b' → u.tickHw 4 = u.tick (hardwareOnly 4 s) := fun u hu => by
    rw [tickHw_eq_tick, hardwareOnly_congr 4 (hu ▸ hparams)]
  rw [poll_service hime hp]
  refine (push16Then_ok (s := s.acknowledge i) hb hb' _).trans ?_
  rw [hcost _ (by rfl)]
  rfl

/-- A poll that services a source ends in `served`, or in a recorded fault of the push. -/
theorem poll_served_concludes (hime : s.cpu.ime = true) (hp : s.bus.pending = some i)
    (h : ∀ b b', (s.acknowledge i).bus.write (s.cpu.sp - 1#16) (hiByte s.cpu.pc) = .ok b →
      b.write (s.cpu.sp - 2#16) (loByte s.cpu.pc) = .ok b' → N (served i b' s)) : Concludes s.cycles N (poll s) := by
  cases hb : (s.acknowledge i).bus.write (s.cpu.sp - 1#16) (hiByte s.cpu.pc) with
  | error kind =>
    rw [poll_service hime hp]
    unfold serviceThen
    rw [push16Then_first (s := s.acknowledge i) hb]
    exact raise_concludes kind rfl
  | ok b =>
    cases hb' : b.write (s.cpu.sp - 2#16) (loByte s.cpu.pc) with
    | error kind =>
      rw [poll_service hime hp]
      unfold serviceThen
      rw [push16Then_second (s := s.acknowledge i) hb hb']
      exact raise_concludes kind rfl
    | ok b' => rw [poll_served hime hp hb hb']; exact .next (h b b' hb hb')

theorem poll_concludes (hidle : N (s.close s.tally))
    (hserved : ∀ i b b', (s.acknowledge i).bus.write (s.cpu.sp - 1#16) (hiByte s.cpu.pc) = .ok b →
      b.write (s.cpu.sp - 2#16) (loByte s.cpu.pc) = .ok b' → N (served i b' s)) : Concludes s.cycles N (poll s) := by
  cases hime : s.cpu.ime with
  | false => rw [poll_idle (.inl hime)]; exact .next hidle
  | true =>
    cases hp : s.bus.pending with
    | none => rw [poll_idle (.inr hp)]; exact .next hidle
    | some i => exact poll_served_concludes hime hp (hserved i)

end

/-! ## The end of a step (60_exceptions.md R231) -/

/-- The state in which the end of a step polls: the EI delay counted, the step's tally updated. -/
def polled (s : State) : State := s.eiTick.update s.tally

@[simp] theorem polled_bus (s : State) : (polled s).bus = s.bus.update s.tally := congrArg (Bus.update s.tally) (eiTick_bus s)
@[simp] theorem polled_tally (s : State) : (polled s).tally = s.tally := eiTick_tally s
@[simp] theorem polled_cycles (s : State) : (polled s).cycles = s.cycles := eiTick_cycles s
@[simp] theorem polled_status (s : State) : (polled s).status = s.status := eiTick_status s

theorem finishStep_concludes {N : State → Prop} {s : State} (hidle : N ((polled s).close (polled s).tally))
    (hserved : ∀ i b b', ((polled s).acknowledge i).bus.write ((polled s).cpu.sp - 1#16) (hiByte (polled s).cpu.pc) = .ok b →
      b.write ((polled s).cpu.sp - 2#16) (loByte (polled s).cpu.pc) = .ok b' → N (served i b' (polled s))) :
    Concludes s.cycles N (finishStep s) :=
  polled_cycles s ▸ poll_concludes hidle hserved

/-! ## The step (60_exceptions.md R231) -/

section
variable {N : State → Prop} {s : State}

theorem step_halted (hs : s.status = .running) (hh : s.cpu.halted = true) : step s = finishStep (s.beginStep.tick 4) := by
  unfold step
  rw [hs, hh]
  rfl

theorem step_fetches (hs : s.status = .running) (hh : s.cpu.halted = false) :
    step s = fetchThen s.beginStep fun i s => afterInstruction (exec i s) := by
  unfold step
  rw [hs, hh]
  rfl

/-- A step of a running machine is a halted tick, or an instruction executed after one to three bytes were fetched; its end
follows. -/
theorem step_concludes (hs : s.status = .running)
    (htick : s.cpu.halted = true → Concludes s.cycles N (finishStep (s.beginStep.tick 4)))
    (hexec : s.cpu.halted = false → ∀ i n t, 0 < n → n < 4 → Executed i (fetched n s.beginStep) t →
      Concludes t.cycles N (finishStep t)) : Concludes s.cycles N (step s) := by
  cases hh : s.cpu.halted with
  | true => rw [step_halted hs hh]; exact htick hh
  | false =>
    rw [step_fetches hs hh]
    exact fetchThen_concludes (s := s.beginStep) fun i n h0 h4 =>
      (exec_concludes i (fetched n s.beginStep)).afterInstruction fun t ht => ht.cycles ▸ hexec hh i n t h0 h4 ht

end

/-! ## The result of a step (60_exceptions.md R234) -/

theorem hardwareOnly_four_mod (s : State) : hardwareOnly 4 s % 4 = 0 := by
  unfold hardwareOnly
  split <;> rfl

/-- A step has ended with a running machine and its result, whole machine cycles and at least one, added to the total. -/
structure Closed (total : Nat) (t : State) : Prop where
  status : t.status = .running
  least : 4 ≤ t.tally
  whole : t.tally % 4 = 0
  cycles : t.cycles = total + t.tally

/-- The end of a step closes it, the tally being whole machine cycles. -/
theorem finishStep_closes {s : State} (hs : s.status = .running) (hleast : 4 ≤ s.tally) (hwhole : s.tally % 4 = 0) :
    Concludes s.cycles (Closed s.cycles) (finishStep s) := by
  have hcost := hardwareOnly_four_mod (polled s)
  have hstatus : (polled s).status = .running := (polled_status s).trans hs
  refine finishStep_concludes ⟨hstatus, by simpa using hleast, by simpa using hwhole, by simp⟩
    fun i b b' _ _ => ⟨hstatus, ?_, ?_, by simp [served]⟩ <;>
    (simp only [served, serviceCost, polled_tally]; omega)

theorem step_closes {s : State} (hs : s.status = .running) : Concludes s.cycles (Closed s.cycles) (step s) := by
  refine step_concludes hs (fun _ => finishStep_closes (s := s.beginStep.tick 4) hs (by simp) (by simp))
    fun _ i n t h0 _ ht => ?_
  obtain ⟨k, hk⟩ := ht.tally
  have hk : t.tally = 0 + 4 * n + 4 * k := hk
  have hcycles : s.cycles = t.cycles := ht.cycles.symm
  rw [hcycles]
  exact finishStep_closes (ht.status.trans hs) (by omega) (by omega)

/-- Settles O56: a stopped machine answers its stop; a step of a running one closes or concludes in a recorded stop. -/
theorem stepsEndRunningOrRecorded : Obligations.StepsEndRunningOrRecorded := by
  intro s
  refine ⟨fun kind hs => ?_, fun addr op hs => ?_, fun t ht => ?_, fun r hs hr => ?_, fun r hs hr => ?_⟩
  · unfold step; rw [hs]; rfl
  · unfold step; rw [hs]; rfl
  · have hs := (step_next ht).1
    obtain ⟨hstatus, hleast, hwhole, hcycles⟩ := (step_closes hs).of_next ht
    exact ⟨hs, hstatus, hleast, hwhole, hcycles⟩
  · have h := step_closes hs
    rw [hr] at h
    cases h with
    | fault hstatus hcycles => exact ⟨_, _, rfl, hstatus, hcycles⟩
  · have h := step_closes hs
    rw [hr] at h
    cases h with
    | refused hstatus hcycles => exact ⟨_, _, rfl, hstatus, hcycles⟩

/-! ## The EI delay (47_system.md R219) -/

/-- The EI count as a state: only IME and `ei_pending` can change. -/
theorem eiTick_eq (s : State) :
    s.eiTick = { s with cpu := { s.cpu with ime := s.eiTick.cpu.ime, eiPending := s.eiTick.cpu.eiPending } } := by
  unfold State.eiTick
  split <;> rfl

/-- An EI counting down: the count falls by one, and IME is set when it reaches 0. -/
theorem eiTick_counting {s : State} (hd : s.bus.params.eiDelay = true) (he : s.cpu.eiPending ≠ 0#2) :
    s.eiTick = s.withCpu { s.cpu with
      eiPending := s.cpu.eiPending - 1#2, ime := s.cpu.ime || s.cpu.eiPending - 1#2 == 0#2 } := by
  unfold State.eiTick
  rw [if_pos (by simp [hd, he])]

theorem eiTick_sp (s : State) : s.eiTick.cpu.sp = s.cpu.sp := by rw [eiTick_eq]

theorem eiTick_ime {s : State} (h : s.cpu.ime = true) : s.eiTick.cpu.ime = true := by
  unfold State.eiTick
  split <;> simp [h]

/-- Settles O55: the count is idle, at 1 or above 1. -/
theorem eiDelayCountsDown : Obligations.EiDelayCountsDown := by
  intro s
  refine ⟨_, _, eiTick_eq s, fun hidle => ?_, fun hd he => ?_, fun hd he => ?_⟩
  · rw [eiTick_idle hidle]; exact ⟨rfl, rfl⟩
  · rw [eiTick_counting hd (by simp [he])]
    simp [he]
  · rw [eiTick_counting hd (by intro h; simp [h] at he)]
    refine ⟨?_, ?_⟩
    · have : s.cpu.eiPending - 1#2 ≠ 0#2 := by bv_omega
      simp [this]
    · show (s.cpu.eiPending - 1#2).toNat + 1 = _
      bv_omega

/-! ## The halted step -/

/-- A poll that services a source and completes ends in `served`. -/
theorem poll_next_of_lowestPending {s t : State} {i : Nat} (h : poll s = .next t) (hime : s.cpu.ime = true)
    (hi : LowestPending s.bus i) : ∃ b, t = served ⟨i, hi.1⟩ b s :=
  (poll_served_concludes (N := fun t => ∃ b, t = served _ b s) hime (pending_eq_some hi.2.1 hi.2.2)
    fun _ b _ _ => ⟨b, rfl⟩).of_next h

/-- Settles O53: a halted step is the end of a step after 4 cycles, and its poll services the pending source or nothing. -/
theorem haltedStepTicksThenPolls : Obligations.HaltedStepTicksThenPolls := by
  intro s hs hh
  have hstep : step s = poll (polled { s with tally := 4 }) := step_halted hs hh
  have hbus : (polled { s with tally := 4 }).bus = s.bus.update 4 := polled_bus _
  refine ⟨hstep, fun i t hime hi ht => ?_, fun hei hnone => ?_⟩
  · obtain ⟨b, rfl⟩ := poll_next_of_lowestPending (hstep.symm.trans ht)
      (eiTick_ime (s := { s with tally := 4 }) hime) (hbus.symm ▸ hi)
    have hvector : 0x40 + 8 * i < 2 ^ 16 := by have := hi.1; omega
    refine ⟨rfl, rfl, Nat.mod_eq_of_lt hvector, congrArg (· - 2#16) (eiTick_sp _), ?_⟩
    exact congrArg₂ (· + ·) (polled_tally _) (serviceCost_congr (s := s) (congrArg Bus.params hbus :))
  · rw [hstep, polled, eiTick_idle (s := { s with tally := 4 }) hei, poll_idle (hnone.imp_right (pending_eq_none _).2)]
    rfl

end Sys2Proof.Proofs
end

section
/-! The invariant between two steps. Inside a step, before the EI count, the bus is in order and the latches are as an instruction
may leave them (`Unfinished`): the fetch and the instruction keep that, and the end of a step turns it into the invariant. -/

namespace Sys2Proof.Proofs

open Sys2Proof.Machine Sys2Proof.Safety Sys2Proof.Laws

/-! ## The bus -/

/-- What the invariant says of the bus at any moment of a step. -/
structure BusOk (b : Bus) : Prop where
  ppu : PpuOk b.params.lcdGates b.ppu
  arrays : ArraysOk b

section
variable {b b' : Bus}

theorem BusOk.writeAll (h : BusOk b) {stores : List (Word × Byte)} (hs : writeAll stores b = .ok b') : BusOk b' where
  ppu := by rw [(writeAll_frame hs).params]; exact ppuOk_writeAll rfl h.ppu hs
  arrays := arraysOk_writeAll h.arrays hs

theorem BusOk.write (h : BusOk b) {a : Word} {v : Byte} (hw : b.write a v = .ok b') : BusOk b' :=
  h.writeAll (writeAll_singleton hw)

theorem BusOk.update (h : BusOk b) (n : Nat) : BusOk (b.update n) := ⟨ppuOk_update h.ppu n, arraysOk_update h.arrays n⟩

theorem BusOk.afterOpcodeFetch (h : BusOk b) (a : Word) : BusOk (b.afterOpcodeFetch a) :=
  ⟨h.ppu, { h.arrays with }⟩

theorem BusOk.withIntFlag (h : BusOk b) (v : Byte) : BusOk { b with intFlag := v } :=
  ⟨h.ppu, { h.arrays with }⟩

end

/-! ## The interrupt latches -/

/-- The latches before the EI count of a step: an EI of this step has `ei_pending` at 2, and a HALT may have been taken on an EI
whose count ends with this step (47_system.md R216, R219). -/
structure LatchesPending (eiDelay : Bool) (c : Cpu) : Prop where
  bound : c.eiPending.toNat ≤ 2
  delay : eiDelay = false → c.eiPending = 0#2
  enabled : c.ime = true → c.eiPending = 0#2
  halted : c.halted = true → c.ime = true ∨ c.eiPending = 1#2

section
variable {d : Bool} {c c' : Cpu} {s t : State}

theorem latchesOk_congr (h : LatchesOk d c) (hc : SameLatches c c') : LatchesOk d c' where
  bound := by rw [hc.eiPending]; exact h.bound
  delay hd := hc.eiPending.trans (h.delay hd)
  enabled hi := hc.eiPending.trans (h.enabled (hc.ime.symm.trans hi))
  halted hh := hc.ime.trans (h.halted (hc.halted.symm.trans hh))

theorem latchesPending_of_ok (h : LatchesOk d c) : LatchesPending d c where
  bound := h.bound.trans (by decide)
  delay := h.delay
  enabled := h.enabled
  halted hh := .inl (h.halted hh)

/-- With no EI counting down the latches are consistent as soon as a halted machine has IME set. -/
theorem latchesOk_idle (he : c.eiPending = 0#2) (hh : c.halted = true → c.ime = true) : LatchesOk d c where
  bound := by rw [he]; decide
  delay _ := he
  enabled _ := he
  halted := hh

/-- Every instruction of a machine that is not halted leaves the latches as the EI count can meet them. -/
theorem LatchEffect.pending {i : Instr} (h : LatchEffect s t i) (hs : LatchesOk s.bus.params.eiDelay s.cpu)
    (hrun : s.cpu.halted = false) : LatchesPending s.bus.params.eiDelay t.cpu := by
  have running : ∀ {p : Prop}, t.cpu.halted = s.cpu.halted → t.cpu.halted = true → p := fun hsame hh => by
    simp [hsame, hrun] at hh
  cases h with
  | kept hsame => exact latchesPending_of_ok (latchesOk_congr hs hsame)
  | di hime hhalted hei => exact latchesPending_of_ok (latchesOk_idle hei (running hhalted))
  | reti hime hhalted hei => exact latchesPending_of_ok (latchesOk_idle hei (running hhalted))
  | ei hdelay hime hhalted hei => exact latchesPending_of_ok (latchesOk_idle (hei.trans (hs.delay hdelay)) (running hhalted))
  | eiDelayed hdelay hoff hime hhalted hei =>
    exact ⟨by rw [hei]; decide, by simp [hdelay], by simp [hime], running hhalted⟩
  | halt htaken hime hei =>
    refine ⟨by rw [hei]; exact hs.bound.trans (by decide), fun hd => hei.trans (hs.delay hd),
      fun hi => hei.trans (hs.enabled (hime.symm.trans hi)), fun _ => ?_⟩
    rw [hime, hei]
    simp only [haltTaken, Bool.or_eq_true, Bool.and_eq_true, Bool.not_eq_true', beq_eq_false_iff_ne] at htaken
    refine htaken.imp_right fun hcounting => ?_
    have hne := hcounting.2
    have hbound := hs.bound
    bv_omega

/-- The EI count makes the latches consistent: an EI that has counted down to 0 has set IME. -/
theorem LatchesPending.eiTick (h : LatchesPending s.bus.params.eiDelay s.cpu) :
    LatchesOk s.bus.params.eiDelay s.eiTick.cpu := by
  by_cases he : s.cpu.eiPending = 0#2
  · rw [eiTick_idle (.inr he)]
    exact latchesOk_idle he fun hh => (h.halted hh).resolve_right (by simp [he])
  · have hd : s.bus.params.eiDelay = true := Bool.eq_true_of_not_eq_false fun hd => he (h.delay hd)
    have hime : s.cpu.ime = false := Bool.eq_false_of_not_eq_true fun hi => he (h.enabled hi)
    have hbound := h.bound
    rw [eiTick_counting hd he]
    refine ⟨?_, by simp [hd], fun hi => ?_, fun hh => ?_⟩
    · show (s.cpu.eiPending - 1#2).toNat ≤ 1
      bv_omega
    · simpa [hime] using hi
    · have hone := (h.halted hh).resolve_left (by simp [hime])
      simp [hone]

end

/-! ## The machine inside a step -/

/-- The machine inside a step, before the EI count. -/
structure Unfinished (s : State) : Prop where
  bus : BusOk s.bus
  latches : LatchesPending s.bus.params.eiDelay s.cpu
  status : s.status = .running

section
variable {s t : State}

theorem busOk_of_inv (h : Inv s) : BusOk s.bus := ⟨h.ppu, h.arrays⟩

/-- What an update leaves meets the invariant: the bus is in order and its requests are taken. -/
theorem inv_of_updated {b : Bus} {n : Nat} (hbus : s.bus = b.update n) (hb : BusOk b)
    (hlatches : LatchesOk b.params.eiDelay s.cpu) (hs : s.status = .running) : Inv s where
  ppu := hbus ▸ (hb.update n).ppu
  arrays := hbus ▸ (hb.update n).arrays
  requests := hbus ▸ requestsTaken_update b n
  latches := hbus ▸ hlatches
  status := hs

/-- An instruction of a machine that meets the invariant and is not halted. -/
theorem unfinished_of_executed {i : Instr} {n : Nat} (h : Inv s) (hrun : s.cpu.halted = false)
    (he : Executed i (fetched n s.beginStep) t) : Unfinished t := by
  obtain ⟨stores, hstores⟩ := he.stored
  have hfetched : BusOk (fetched n s.beginStep).bus := (busOk_of_inv h).afterOpcodeFetch s.cpu.pc
  have hlatches : LatchesOk (fetched n s.beginStep).bus.params.eiDelay (fetched n s.beginStep).cpu :=
    latchesOk_congr h.latches ⟨rfl, rfl, rfl⟩
  exact ⟨hfetched.writeAll hstores, he.writeFrame.params ▸ he.latches.pending hlatches hrun, he.status.trans h.status⟩

/-- The end of a step re-establishes the invariant. -/
theorem finishStep_inv (h : Unfinished s) : Concludes s.cycles Inv (finishStep s) := by
  have hbus : BusOk (polled s).bus := polled_bus s ▸ h.bus.update s.tally
  have hstatus : (polled s).status = .running := (polled_status s).trans h.status
  refine finishStep_concludes (inv_of_updated (polled_bus s) h.bus h.latches.eiTick hstatus) fun i b b' hb hb' => ?_
  exact inv_of_updated rfl (((hbus.withIntFlag _).write hb).write hb') (latchesOk_idle rfl nofun) hstatus

theorem step_inv (h : Inv s) : Concludes s.cycles Inv (step s) :=
  step_concludes h.status
    (fun _ => finishStep_inv (s := s.beginStep.tick 4) ⟨⟨h.ppu, h.arrays⟩, latchesPending_of_ok h.latches, h.status⟩)
    fun hrun _ _ _ _ _ he => finishStep_inv (unfinished_of_executed h hrun he)

/-- The host's key events write the input latch alone, of which the invariant says nothing. -/
theorem inv_withInput (h : Inv s) (input : Input) : Inv { s with bus := { s.bus with input := input } } where
  ppu := h.ppu
  arrays := { h.arrays with }
  requests := { h.requests with }
  latches := h.latches
  status := h.status

end

/-- Settles O57: the fetch and the instruction keep what `Unfinished` says, the EI count, the update and the poll end in the
invariant. -/
theorem stepKeepsTheInvariant : Obligations.StepKeepsTheInvariant := fun _ h =>
  ⟨fun _ ht => (step_inv h).of_next ht, fun _ => ⟨inv_withInput h _, inv_withInput h _⟩⟩

end Sys2Proof.Proofs
end

section
/-! The registers: the CPU's pairs and flags, the instructions that write the interrupt latches, what each register behind the bus
reads and stores, the update fan-out and the keys. -/

namespace Sys2Proof.Proofs

open Sys2Proof.Machine Sys2Proof.Safety Sys2Proof.Laws Sys2Proof.Claims

/-! ## Pairs and flags (10_state.md R21 to R23) -/

/-- Settles O1: a pair is the word of its two registers, and F the byte of its flags. -/
theorem registerPairsAreViews : Obligations.RegisterPairsAreViews := by
  intro c f v n
  have hf : Flags.ofByte f.toByte = f := ofByte_toByte f
  refine ⟨⟨toNat_wordOf _ _, toNat_wordOf _ _, toNat_wordOf _ _, toNat_wordOf _ _⟩,
    fun rr => ⟨pair_setPair rr v c, setPair_f rr v c, fun r hr => reg_setPair hr v c⟩,
    fun rr => ⟨stackPair_setStackPair rr v c, fun hrr => ?_, fun r hr => reg_setStackPair hr v c⟩,
    ⟨toByte_low f, congrArg Flags.z hf, congrArg Flags.n hf, congrArg Flags.h hf, congrArg Flags.c hf⟩,
    toByte_ofByte n, rfl⟩
  rw [setStackPair_f, if_neg hrr]

/-! ## NOP, DI, EI and HALT (47_system.md R215 to R219) -/

theorem kept_latches (ime : Bool) (ei : BitVec 2) (s : State) :
    Kept [.ime, .eiPending] 0 s (s.withCpu { s.cpu with ime := ime, eiPending := ei }) := by
  refine ⟨fun p hp => ?_, rfl, rfl, rfl⟩
  cases p with
  | ime | eiPending => simp at hp
  | reg r => cases r <;> rfl
  | _ => rfl

theorem kept_halted (halted : Bool) (s : State) : Kept [.halted] 0 s (s.withCpu { s.cpu with halted := halted }) := by
  refine ⟨fun p hp => ?_, rfl, rfl, rfl⟩
  cases p with
  | halted => simp at hp
  | reg r => cases r <;> rfl
  | _ => rfl

/-- Settles O24: EI has three cases, by EI_DELAY and IME. -/
theorem nopDiEi : Obligations.NopDiEi := by
  intro s
  refine ⟨⟨rfl, s, rfl, trivial, kept_refl s⟩, ⟨rfl, _, rfl, ⟨rfl, rfl⟩, kept_latches false 0#2 s⟩, rfl, ?_⟩
  unfold Ends
  rw [exec_ei, enableInterrupts]
  cases hdelay : s.bus.params.eiDelay with
  | false => exact ⟨_, rfl, ⟨rfl, rfl⟩, kept_latches true s.cpu.eiPending s⟩
  | true =>
    cases hime : s.cpu.ime with
    | false => exact ⟨_, rfl, ⟨hime, rfl⟩, kept_latches s.cpu.ime 2#2 s⟩
    | true => exact ⟨s, rfl, ⟨hime, rfl⟩, kept_latches s.cpu.ime s.cpu.eiPending s⟩

/-- HALT's test as the rule states it (R216). -/
theorem haltTaken_iff (s : State) :
    haltTaken s = true ↔ s.cpu.ime = true ∨ s.bus.params.eiDelay = true ∧ 0 < s.cpu.eiPending.toNat := by
  have hzero : s.cpu.eiPending ≠ 0#2 ↔ 0 < s.cpu.eiPending.toNat := by bv_omega
  simp [haltTaken, ← hzero]

/-- Settles O25: HALT's test is R216's condition. -/
theorem haltSetsHalted : Obligations.HaltSetsHalted := by
  intro s
  refine ⟨rfl, ?_⟩
  unfold Ends
  rw [exec_halt, haltCpu]
  by_cases htaken : haltTaken s = true
  · rw [if_pos htaken, if_pos ((haltTaken_iff s).1 htaken)]
    exact ⟨_, rfl, rfl, kept_halted true s⟩
  · rw [if_neg htaken, if_neg fun h => htaken ((haltTaken_iff s).2 h)]
    exact ⟨s, rfl, rfl, kept_halted s.cpu.halted s⟩

/-! ## The I/O registers (10_state.md R30 to R54) -/

/-- A field of bits as a number. -/
theorem extractLsb'_eq_ofNat {w : Nat} (start len : Nat) (v : BitVec w) :
    v.extractLsb' start len = BitVec.ofNat len (v.toNat / 2 ^ start) := by
  rw [← Nat.shiftRight_eq_div_pow]
  rfl

theorem readDiv_eq (t : Timer) : t.readDiv = BitVec.ofNat 8 (t.counter.toNat / 256) := extractLsb'_eq_ofNat 8 8 t.counter

theorem readTac_eq (t : Timer) : t.readTac = BitVec.ofNat 8 (0xF8 + t.tac.toNat) := by
  unfold Timer.readTac
  generalize t.tac = tac
  revert tac
  decide

theorem writeTac_eq (v : Byte) (t : Timer) : t.writeTac v = { t with tac := BitVec.ofNat 3 v.toNat } := by
  rw [Timer.writeTac, extractLsb'_eq_ofNat, pow_zero, Nat.div_one]

theorem writeP1_eq (v : Byte) (i : Input) : i.writeP1 v = { i with sel := BitVec.ofNat 2 (v.toNat / 16) } := by
  rw [Input.writeP1, extractLsb'_eq_ofNat]
  rfl

theorem readStat_eq (p : Ppu) :
    p.readStat = BitVec.ofNat 8 (0x80 + 8 * p.statEn.toNat + 4 * p.coin.toNat + p.mode.code.toNat) := by
  unfold Ppu.readStat
  generalize p.statEn = en, p.coin = coin, p.mode.code = code
  revert en coin code
  decide

theorem writeStat_eq (v : Byte) (p : Ppu) :
    p.writeStat v = ({ p with statEn := BitVec.ofNat 4 (v.toNat / 8) } : Ppu).coincidence := by
  rw [Ppu.writeStat, extractLsb'_eq_ofNat]
  rfl

/-- A write to LCDC resets the state machine exactly when it changes the gated bit 7 (R271). -/
theorem writeLcdc_eq (gates : Bool) (v : Byte) (p : Ppu) :
    p.writeLcdc gates v =
      if gates = true ∧ v.getLsbD 7 ≠ p.lcdc.getLsbD 7 then
        ({ p with lcdc := v, mode := if v.getLsbD 7 then .oamSearch else .hBlank, clock := 0, ly := 0 } : Ppu).coincidence
      else { p with lcdc := v } := by
  unfold Ppu.writeLcdc
  cases gates <;> cases p.lcdc.getLsbD 7 <;> cases v.getLsbD 7 <;> rfl

/-- Settles O42: each address is routed to its register. -/
theorem plainRegisters : Obligations.PlainRegisters := by
  intro b v
  rw [← readDiv_eq, ← readTac_eq, ← writeTac_eq, ← writeP1_eq]
  and_intros <;> rfl

/-- Settles O43: the writes of STAT and LYC compare, the write of LCDC compares when it switches. -/
theorem ppuRegisterWrites : Obligations.PpuRegisterWrites := by
  intro b v compared switched
  have hcompared : ∀ p, compared p = p.coincidence := fun _ => rfl
  have hswitched : switched = b.ppu.writeLcdc b.params.lcdGates v := (writeLcdc_eq _ v b.ppu).symm
  rw [hswitched, hcompared, hcompared, ← writeStat_eq, ← readStat_eq]
  and_intros <;> rfl

/-! ## The update fan-out (60_exceptions.md R240, R242) -/

/-- The aggregation raises in IF the bits of the sources whose requests are set. -/
theorem getLsbD_aggregate_intFlag (b : Bus) {k : Nat} (hk : k < 8) :
    b.aggregate.intFlag.getLsbD k = (b.intFlag.getLsbD k || requestBit b k) := by
  unfold Bus.aggregate requestBit
  rw [BitVec.getLsbD_or]
  congr 1
  generalize b.ppu.reqVblank = vblank, b.ppu.reqStat = stat, b.timer.req = timer, b.input.req = input
  interval_cases k <;> revert vblank stat timer input <;> decide

/-- Settles O50: the advances write only what time writes, the aggregation moves the requests. -/
theorem updateTakesTheRequests : Obligations.UpdateTakesTheRequests := by
  intro b n k hk
  obtain ⟨hlcdc, hstatEn, hlyc, ⟨hscy, hscx⟩, ⟨hbgp, hobp0, hobp1⟩, ⟨hwy, hwx⟩⟩ :=
    advance_registers b.params.lcdGates n b.ppu
  refine ⟨?_, rfl, rfl, rfl, ⟨hlcdc, hstatEn, hlyc, hscy, hscx, hbgp, hobp0, hobp1, hwy, hwx⟩,
    ⟨advance_tma n b.timer, advance_tac n b.timer⟩, rfl, rfl, rfl, rfl, rfl, rfl, rfl, rfl, rfl⟩
  rw [← Bool.or_eq_true]
  exact iff_of_eq (congrArg (· = true) (getLsbD_aggregate_intFlag (b.advance n) hk))

/-! ## The keys (10_state.md R36, R37, 60_exceptions.md R285) -/

theorem getLsbD_mask (k : Key) {j : Nat} (hj : j < 8) : k.mask.getLsbD j = decide (j = k.bit) := by
  cases k <;> interval_cases j <;> rfl

/-- Settles O51: the mask of a key is its one bit. -/
theorem keysAndTheirRegister : Obligations.KeysAndTheirRegister := by
  intro s k
  refine ⟨rfl, fun hdown => ?_, fun hup => ⟨s.bus.input.keys &&& ~~~k.mask, ?_, fun j hj => ?_⟩,
    ⟨s.bus.input.keys ||| k.mask, rfl, fun j hj => ?_⟩⟩
  · unfold State.keyDown Input.keyDown
    rw [if_neg (by simp [hdown])]
  · unfold State.keyDown Input.keyDown
    rw [if_pos hup]
  · rw [BitVec.getLsbD_and, BitVec.getLsbD_not, getLsbD_mask k hj]
    by_cases hjk : j = k.bit <;> simp [hj, hjk]
  · rw [BitVec.getLsbD_or, getLsbD_mask k hj]
    by_cases hjk : j = k.bit <;> simp [hjk]

end Sys2Proof.Proofs
end

section
/-! The boot latch through an access and a step, and the step of the bytes at pc: how many bytes the decoder asks for, and the
fetch of an instruction or of as much of it as can be read. -/

namespace Sys2Proof.Proofs

open Sys2Proof.Machine Sys2Proof.Safety Sys2Proof.Laws

/-! ## The boot latch (10_state.md R34, R35) -/

section
variable {s : State}

/-- The end of a step never sets the boot latch. -/
theorem finishStep_booting : Concludes s.cycles (fun t => t.bus.booting = true → s.bus.booting = true) (finishStep s) := by
  have hbus : (polled s).bus.booting = s.bus.booting := by rw [polled_bus, update_booting]
  rw [← hbus]
  exact finishStep_concludes (fun h => h) fun i b b' hb hb' h => (write_frame hb).booting ((write_frame hb').booting h)

/-- A step that ends with the latch set began so, and fetched no opcode at or above 0x0100. -/
theorem step_booting (hs : s.status = .running) :
    Concludes s.cycles
      (fun t => t.bus.booting = true → s.bus.booting = true ∧ (s.cpu.halted = true ∨ s.cpu.pc.toNat < 0x100)) (step s) := by
  refine step_concludes hs (fun hh => ?_) fun _ i n t _ _ he => ?_
  · exact (finishStep_booting (s := s.beginStep.tick 4)).mono fun t ht hboot => ⟨ht hboot, .inl hh⟩
  · refine finishStep_booting.mono fun u hu hboot => ?_
    have hlatched : (s.bus.booting && decide (s.cpu.pc.toNat < 0x100)) = true := he.writeFrame.booting (hu hboot)
    rw [Bool.and_eq_true, decide_eq_true_eq] at hlatched
    exact ⟨hlatched.1, .inr hlatched.2⟩

end

/-- Settles O45: the accesses by the laws of the latch on the bus, the step by what its fetch, instruction and end do to it. -/
theorem bootLatch : Obligations.BootLatch := by
  refine ⟨fun b a v => ⟨fun hboot ha => ?_, fun h => ?_, fun ha => ?_, rfl⟩, fun s t ht => ?_⟩
  · unfold Bus.read
    rw [route_romFixed (by omega)]
    simp [hboot, ha]
  · rcases h with hoff | ha
    · rw [← hoff]
    · exact (read_withBooting ha false b).symm
  · exact write_withBooting ha v b.booting { b with booting := false }
  · exact (step_booting (step_next ht).1).of_next ht

/-! ## The bytes of an instruction (30_encoding.md R100, R114) -/

/-- The instruction a format gives with this operand byte or word. -/
def instrOf (n : Byte) (nn : Word) (f : Format) : Instr :=
  match f with
  | .f1 i => i
  | .f2 make => make n
  | .f3 make => make nn

section
variable (n : Byte) (nn : Word)

theorem fetchedLength_decodeExt (op2 : Byte) : fetchedLength (decodeExt op2) = 2 := by
  unfold decodeExt
  split
  · exact (row_cbShift _ _).length
  · exact (row_cbBit _ _).length
  · exact (row_cbRes _ _).length
  · exact (row_cbSet _ _).length

theorem fetchedLength_decodeX0 (y z : Fin 8) :
    fetchedLength (instrOf n nn (decodeX0 y z)) = (decodeX0 y z).fetched := by
  fin_cases z <;> fin_cases y <;> rfl

theorem fetchedLength_decodeX3 (y z : Fin 8) :
    fetchedLength (instrOf n nn (decodeX3 y z)) = (decodeX3 y z).fetched := by
  match z, y with
  | 3, 1 => exact fetchedLength_decodeExt n
  | 3, 0 | 3, 2 | 3, 3 | 3, 4 | 3, 5 | 3, 6 | 3, 7 => rfl
  | 0, y | 1, y | 2, y | 4, y | 5, y | 6, y | 7, y => fin_cases y <;> rfl

theorem fetchedLength_ldBlock (dst src : Operand8) : fetchedLength (Instr.ldBlock dst src) = 1 := by
  cases dst with
  | reg r =>
    cases src with
    | reg r' => exact (row_ldReg r r').length
    | atHl => exact (row_ldRegAtHl r).length
  | atHl =>
    cases src with
    | reg r' => exact (row_ldAtHlReg r').length
    | atHl => rfl

/-- A step fetches as many bytes for an instruction as its opcode's format asks for. -/
theorem fetchedLength_decodeOpcode (op : Byte) :
    fetchedLength (instrOf n nn (decodeOpcode op)) = (decodeOpcode op).fetched := by
  unfold decodeOpcode
  split
  · exact fetchedLength_decodeX0 n nn _ _
  · exact fetchedLength_ldBlock _ _
  · exact (row_alu _ _).length
  · exact fetchedLength_decodeX3 n nn _ _

end

/-! ## The step of the bytes at pc (R112, 60_exceptions.md R231) -/

section
variable {s : State} {bytes : List Byte} {rest : Instr → State → Out}

/-- The bytes are those that a fetch reads from pc on. -/
def ReadsAtPc (s : State) (bytes : List Byte) : Prop :=
  ∀ k (h : k < bytes.length), (s.bus.afterOpcodeFetch s.cpu.pc).read (s.cpu.pc + BitVec.ofNat 16 k) = .ok bytes[k]

theorem ReadsAtPc.opcode {op : Byte} {tail : List Byte} (h : ReadsAtPc s (op :: tail)) : s.bus.read s.cpu.pc = .ok op := by
  have h0 := h 0 (Nat.zero_lt_succ _)
  rwa [BitVec.add_zero, read_afterOpcodeFetch] at h0

/-- A fetch of bytes that decode hands the instruction on after just these bytes. -/
theorem fetchThen_of_decode {i : Instr} (hread : ReadsAtPc s bytes) (hi : decode bytes = .ok i)
    (hlength : bytes.length = fetchedLength i) : fetchThen s rest = rest i (fetched bytes.length s) := by
  cases bytes with
  | nil => cases hi
  | cons op tail =>
    have hop := hread.opcode
    have hformat := fun n nn => fetchedLength_decodeOpcode n nn op
    unfold fetchThen
    rw [fetchOpcodeThen_ok hop]
    simp only [decode] at hi
    cases hf : decodeOpcode op with
    | f1 i' =>
      rw [hf] at hi hformat
      cases hi
      rw [hlength.trans (hformat 0 0)]
      rfl
    | f2 make =>
      rw [hf] at hi hformat
      cases tail with
      | nil => cases hi
      | cons n tail =>
        cases hi
        rw [hlength.trans (hformat n 0)]
        exact fetch8Then_fetched_ok (hread 1 (by simp)) _
    | f3 make =>
      rw [hf] at hi hformat
      match tail with
      | [] | [_] => cases hi
      | lo :: hi' :: tail =>
        cases hi
        rw [hlength.trans (hformat 0 (wordOf hi' lo))]
        exact (fetch8Then_fetched_ok (hread 1 (by simp)) _).trans (fetch8Then_fetched_ok (hread 2 (by simp)) _)

/-- A fetch whose next byte is still needed and cannot be read stops there. -/
theorem fetchThen_of_missing {missing : DecodeError} {kind : FaultKind} (hread : ReadsAtPc s bytes)
    (hmissing : decode bytes = .error missing)
    (hkind : (s.bus.afterOpcodeFetch s.cpu.pc).read (s.cpu.pc + BitVec.ofNat 16 bytes.length) = .error kind) :
    fetchThen s rest = raise kind (if bytes.isEmpty then s else fetched bytes.length s) := by
  unfold fetchThen
  cases bytes with
  | nil =>
    rw [List.length_nil, BitVec.add_zero, read_afterOpcodeFetch] at hkind
    exact fetchOpcodeThen_error hkind _
  | cons op tail =>
    have hop := hread.opcode
    rw [fetchOpcodeThen_ok hop]
    simp only [decode] at hmissing
    cases hf : decodeOpcode op with
    | f1 i => rw [hf] at hmissing; cases hmissing
    | f2 make =>
      rw [hf] at hmissing
      cases tail with
      | nil => exact fetch8Then_fetched_error hkind _
      | cons n tail => cases hmissing
    | f3 make =>
      rw [hf] at hmissing
      match tail with
      | [] => exact fetch8Then_fetched_error hkind _
      | [lo] => exact (fetch8Then_fetched_ok (hread 1 (by simp)) _).trans (fetch8Then_fetched_error hkind _)
      | lo :: hi :: tail => cases hmissing

end

/-- Settles O52: the fetch of bytes that decode, then the instruction and the end of the step; the fetch of bytes that do not. -/
theorem stepRunsTheDecodedInstruction : Obligations.StepRunsTheDecodedInstruction := by
  intro s bytes hs hh latched after hread
  have hfetched : fetched bytes.length s.beginStep = after latched :=
    congrArg (State.mk _ _ · _ _) (Nat.zero_add (4 * bytes.length))
  have hread : ReadsAtPc s.beginStep bytes := hread
  refine ⟨fun i hi hlength => ?_, fun missing kind hmissing hkind => ?_⟩
  · rw [step_fetches hs hh, fetchThen_of_decode hread hi hlength, hfetched]
    cases exec i (after latched) <;> rfl
  · rw [step_fetches hs hh, fetchThen_of_missing hread hmissing hkind, hfetched]
    cases bytes with
    | nil => simp [after, State.beginStep]
    | cons op tail => rfl

end Sys2Proof.Proofs
end

section
/-! The stores of an instruction: each shape of meaning writes a byte at each of its addresses and changes nothing else behind the
bus (`StoresAt`), and these are the addresses of `storeAddrs`. -/

namespace Sys2Proof.Proofs

open Sys2Proof.Machine Sys2Proof.Safety Sys2Proof.Laws Sys2Proof.Claims

/-! ## Runs of stores -/

/-- From `s` to `t` what is behind the bus has changed by one byte write at each of the addresses, in order. -/
def StoresAt (addrs : List Word) (s t : State) : Prop :=
  ∃ bytes : List Byte, bytes.length = addrs.length ∧ writeAll (addrs.zip bytes) s.bus = .ok t.bus

section
variable {s t : State}

theorem storesAt_nil (h : t.bus = s.bus) : StoresAt [] s t := ⟨[], rfl, congrArg Except.ok h.symm⟩

theorem storesAt_one {a : Word} {v : Byte} (h : s.bus.write a v = .ok t.bus) : StoresAt [a] s t :=
  ⟨[v], rfl, writeAll_singleton h⟩

theorem storesAt_two {a a' : Word} {v v' : Byte} {b : Bus} (h : s.bus.write a v = .ok b) (h' : b.write a' v' = .ok t.bus) :
    StoresAt [a, a'] s t :=
  ⟨[v, v'], rfl, (writeAll_append [(a, v)] [(a', v')] (writeAll_singleton h)).trans (writeAll_singleton h')⟩

/-! ## The shapes that store nothing -/

theorem loadFrom_bus {dst : Reg8} {addr : Word} (h : loadFrom dst addr s = .next t) : t.bus = s.bus := by
  obtain ⟨v, -, rfl⟩ := loadFrom_next.1 h
  rfl

theorem loadAStepping_bus {delta : Word} (h : loadAStepping delta s = .next t) : t.bus = s.bus := by
  obtain ⟨v, -, rfl⟩ := loadAStepping_next.1 h
  rfl

theorem aluOperand_bus {op : AluOp} {o : Operand8} (h : aluOperand op o s = .next t) : t.bus = s.bus := by
  obtain ⟨v, n, -, rfl⟩ := aluOperand_next.1 h
  rfl

theorem testBit_bus {k : Fin 8} {o : Operand8} (h : testBit k o s = .next t) : t.bus = s.bus := by
  obtain ⟨v, n, -, rfl⟩ := testBit_next.1 h
  rfl

/-- A shape that writes the CPU and ticks. -/
theorem tickHw_withCpu_bus {c : Cpu} {n : Nat} (h : Host.Outcome.next ((s.withCpu c).tickHw n) = (.next t : Out)) :
    t.bus = s.bus := by
  cases h
  exact tickHw_bus n _

theorem jumpIf_bus {cc : Cond} {target : Word} (h : jumpIf cc target s = .next t) : t.bus = s.bus := by
  unfold jumpIf at h
  split at h
  · exact tickHw_withCpu_bus h
  · cases h; rfl

/-- A pop and a tail that leaves the bus. -/
theorem pop16Then_bus {tail : Word → State → State} (hbus : ∀ v u, (tail v u).bus = u.bus)
    (h : pop16Then s (fun v u => .next (tail v u)) = .next t) : t.bus = s.bus := by
  obtain ⟨lo, hi, -, -, h⟩ := pop16Then_next.1 h
  cases h
  exact hbus _ _

theorem popPair_bus {rr : StackPair} (h : popPair rr s = .next t) : t.bus = s.bus :=
  pop16Then_bus (fun v u => withCpu_bus (u.cpu.setStackPair rr v) u) h

theorem returnFromInterrupt_bus (h : returnFromInterrupt s = .next t) : t.bus = s.bus :=
  pop16Then_bus (fun v u => tickHw_bus 4 (u.withCpu { u.cpu with pc := v, ime := true, eiPending := 0#2 })) h

theorem returnWith_bus {extra : Nat} (h : returnWith extra s = .next t) : t.bus = s.bus :=
  pop16Then_bus (fun v u => tickHw_bus extra (u.setPc v)) h

theorem returnIf_bus {cc : Cond} (h : returnIf cc s = .next t) : t.bus = s.bus := by
  unfold returnIf at h
  split at h
  · exact returnWith_bus h
  · cases h; exact tickHw_bus 4 s

theorem haltCpu_bus (h : haltCpu s = .next t) : t.bus = s.bus := by
  unfold haltCpu at h
  split at h <;> (cases h; rfl)

theorem enableInterrupts_bus (h : enableInterrupts s = .next t) : t.bus = s.bus := by
  unfold enableInterrupts at h
  split at h
  · cases h; rfl
  · split at h <;> (cases h; rfl)

/-! ## The shapes that store -/

theorem storeTo_storesAt {addr : Word} {v : Byte} (h : storeTo addr v s = .next t) : StoresAt [addr] s t := by
  obtain ⟨b, hb, rfl⟩ := storeTo_next.1 h
  exact storesAt_one hb

theorem storeAStepping_storesAt {delta : Word} (h : storeAStepping delta s = .next t) : StoresAt [s.cpu.hl] s t := by
  obtain ⟨b, hb, rfl⟩ := storeAStepping_next.1 h
  exact storesAt_one hb

theorem storeSp_storesAt {addr : Word} (h : storeSp addr s = .next t) : StoresAt [addr, addr + 1#16] s t := by
  obtain ⟨b, b', hb, hb', rfl⟩ := storeSp_next.1 h
  exact storesAt_two hb hb'

/-- A push and a tail that leaves the bus. -/
theorem push16Then_storesAt {v : Word} {tail : State → State} (hbus : ∀ u, (tail u).bus = u.bus)
    (h : push16Then v s (fun u => .next (tail u)) = .next t) : StoresAt [s.cpu.sp - 1#16, s.cpu.sp - 2#16] s t := by
  obtain ⟨b, b', hb, hb', h⟩ := push16Then_next.1 h
  cases h
  exact storesAt_two hb (by rw [hb', hbus])

theorem pushPair_storesAt {rr : StackPair} (h : pushPair rr s = .next t) :
    StoresAt [s.cpu.sp - 1#16, s.cpu.sp - 2#16] s t :=
  push16Then_storesAt (tickHw_bus 4) h

theorem callTo_storesAt {target : Word} (h : callTo target s = .next t) :
    StoresAt [s.cpu.sp - 1#16, s.cpu.sp - 2#16] s t :=
  push16Then_storesAt (fun u => tickHw_bus 4 (u.setPc target)) h

theorem callIf_storesAt {cc : Cond} {target : Word} (h : callIf cc target s = .next t) :
    StoresAt (if condHolds cc s.cpu.f then [s.cpu.sp - 1#16, s.cpu.sp - 2#16] else []) s t := by
  unfold callIf at h
  split at h
  case isTrue hc => rw [if_pos hc]; exact callTo_storesAt h
  case isFalse hc => rw [if_neg hc]; cases h; exact storesAt_nil rfl

/-- The addresses at which an operand is written back: HL for the byte at HL, none for a register. -/
def operandAddrs (o : Operand8) (s : State) : List Word :=
  match o with
  | .reg _ => []
  | .atHl => [s.cpu.hl]

theorem modifyOperand_storesAt {o : Operand8} {value : Byte → Byte} {flags : Byte → Flags}
    (h : modifyOperand o value flags s = .next t) : StoresAt (operandAddrs o s) s t := by
  cases o with
  | reg r => cases h; exact storesAt_nil rfl
  | atHl =>
    obtain ⟨v, b, -, hb, rfl⟩ := modifyOperand_atHl_next.1 h
    exact storesAt_one hb

theorem rewriteOperand_storesAt {o : Operand8} {value : Byte → Byte} (h : rewriteOperand o value s = .next t) :
    StoresAt (operandAddrs o s) s t := by
  cases o with
  | reg r => cases h; exact storesAt_nil rfl
  | atHl =>
    obtain ⟨v, b, -, hb, rfl⟩ := rewriteOperand_atHl_next.1 h
    exact storesAt_one hb

end

/-! ## The addresses of a row -/

section
variable (s : State)

theorem storeAddrs_ldAtHlReg (src : Reg8) : storeAddrs (Instr.ldAtHlReg src) s = [s.cpu.hl] := by
  cases src <;> rfl

theorem storeAddrs_inc8 (o : Operand8) : storeAddrs (Instr.inc8 o) s = operandAddrs o s := by
  rcases o with (r | _)
  · cases r <;> rfl
  · rfl

theorem storeAddrs_dec8 (o : Operand8) : storeAddrs (Instr.dec8 o) s = operandAddrs o s := by
  rcases o with (r | _)
  · cases r <;> rfl
  · rfl

theorem storeAddrs_push (rr : StackPair) : storeAddrs (Instr.push rr) s = [s.cpu.sp - 1#16, s.cpu.sp - 2#16] := by
  cases rr <;> rfl

theorem storeAddrs_callCond (cc : Cond) (nn : Word) :
    storeAddrs (Instr.callCond cc nn) s = if condHolds cc s.cpu.f then [s.cpu.sp - 1#16, s.cpu.sp - 2#16] else [] := by
  cases cc <;> rfl

theorem storeAddrs_rst (y : Fin 8) : storeAddrs (Instr.rst y) s = [s.cpu.sp - 1#16, s.cpu.sp - 2#16] := by
  fin_cases y <;> rfl

theorem storeAddrs_cbShift (op : ShiftOp) (o : Operand8) : storeAddrs (Instr.cbShift op o) s = operandAddrs o s := by
  rcases o with (r | _)
  · cases op <;> cases r <;> rfl
  · cases op <;> rfl

theorem storeAddrs_cbRes (k : Fin 8) (o : Operand8) : storeAddrs (Instr.cbRes k o) s = operandAddrs o s := by
  rcases o with (r | _)
  · fin_cases k <;> cases r <;> rfl
  · fin_cases k <;> rfl

theorem storeAddrs_cbSet (k : Fin 8) (o : Operand8) : storeAddrs (Instr.cbSet k o) s = operandAddrs o s := by
  rcases o with (r | _)
  · fin_cases k <;> cases r <;> rfl
  · fin_cases k <;> rfl

/-- The row of 0xCB stores where its operand is written back: every extended row but BIT does so (R115, R195). -/
theorem storeAddrs_prefixCb (op2 : Byte) :
    storeAddrs (.prefixCb op2) s = if fieldX op2 = 1 then [] else operandAddrs (Operand8.ofCode (fieldZ op2)) s := by
  change (if Operand8.ofCode (fieldZ op2) = .atHl ∧ fieldX op2 ≠ 1 then [s.cpu.hl] else []) = _
  cases Operand8.ofCode (fieldZ op2) <;> by_cases hx : fieldX op2 = 1 <;> simp [operandAddrs, hx]

end

/-! ## Every instruction -/

section
variable {i : Instr} {s t : State}

theorem StoresAt.of_eq {addrs : List Word} (ha : storeAddrs i s = addrs) (h : StoresAt addrs s t) :
    StoresAt (storeAddrs i s) s t := by rwa [ha]

/-- A row that stores nothing. -/
theorem StoresAt.none (hbus : t.bus = s.bus) (ha : storeAddrs i s = [] := by rfl) : StoresAt (storeAddrs i s) s t :=
  .of_eq ha (storesAt_nil hbus)

theorem execPrefixCb_storesAt {op2 : Byte} (h : execPrefixCb op2 s = .next t) : StoresAt (storeAddrs (.prefixCb op2) s) s t := by
  rw [storeAddrs_prefixCb]
  unfold execPrefixCb at h
  split at h
  case h_1 hx => rw [if_neg (by simp [hx])]; exact modifyOperand_storesAt h
  case h_2 hx => rw [if_pos hx]; exact storesAt_nil (testBit_bus h)
  case h_3 hx => rw [if_neg (by simp [hx])]; exact rewriteOperand_storesAt h
  case h_4 hx => rw [if_neg (by simp [hx])]; exact rewriteOperand_storesAt h

/-- Every instruction that ends in a next state has changed the bus by its own stores alone. -/
theorem exec_storesAt (h : exec i s = .next t) : StoresAt (storeAddrs i s) s t := by
  cases row i with
  | ldReg dst src =>
    rw [exec_ldReg] at h; cases h
    exact .none rfl (by cases dst <;> cases src <;> rfl)
  | ldImm dst n =>
    rw [exec_ldImm] at h; cases h
    exact .none rfl (by cases dst <;> rfl)
  | ldRegAtHl dst => exact .none (loadFrom_bus (exec_ldRegAtHl dst s ▸ h)) (by cases dst <;> rfl)
  | ldAtHlReg src => exact .of_eq (storeAddrs_ldAtHlReg s src) (storeTo_storesAt (exec_ldAtHlReg src s ▸ h))
  | alu op o =>
    refine .none (aluOperand_bus (exec_alu op o s ▸ h)) ?_
    rcases o with (r | _)
    · cases op <;> cases r <;> rfl
    · cases op <;> rfl
  | aluImm op n =>
    rw [exec_aluImm] at h; cases h
    exact .none rfl (by cases op <;> rfl)
  | inc8 o => exact .of_eq (storeAddrs_inc8 s o) (modifyOperand_storesAt (exec_inc8 o s ▸ h))
  | dec8 o => exact .of_eq (storeAddrs_dec8 s o) (modifyOperand_storesAt (exec_dec8 o s ▸ h))
  | ldPair rr nn =>
    rw [exec_ldPair] at h; cases h
    exact .none rfl (by cases rr <;> rfl)
  | incPair rr => exact .none (tickHw_withCpu_bus (exec_incPair rr s ▸ h)) (by cases rr <;> rfl)
  | decPair rr => exact .none (tickHw_withCpu_bus (exec_decPair rr s ▸ h)) (by cases rr <;> rfl)
  | addHl rr => exact .none (tickHw_withCpu_bus (exec_addHl rr s ▸ h)) (by cases rr <;> rfl)
  | push rr => exact .of_eq (storeAddrs_push s rr) (pushPair_storesAt (exec_push rr s ▸ h))
  | pop rr => exact .none (popPair_bus (exec_pop rr s ▸ h)) (by cases rr <;> rfl)
  | jpCond cc nn => exact .none (jumpIf_bus (exec_jpCond cc nn s ▸ h)) (by cases cc <;> rfl)
  | jrCond cc e => exact .none (jumpIf_bus (exec_jrCond cc e s ▸ h)) (by cases cc <;> rfl)
  | callCond cc nn => exact .of_eq (storeAddrs_callCond s cc nn) (callIf_storesAt (exec_callCond cc nn s ▸ h))
  | retCond cc => exact .none (returnIf_bus (exec_retCond cc s ▸ h)) (by cases cc <;> rfl)
  | rst y => exact .of_eq (storeAddrs_rst s y) (callTo_storesAt (exec_rst y s ▸ h))
  | cbShift op o => exact .of_eq (storeAddrs_cbShift s op o) (modifyOperand_storesAt (exec_cbShift op o s ▸ h))
  | cbBit k o =>
    refine .none (testBit_bus (exec_cbBit k o s ▸ h)) ?_
    rcases o with (r | _)
    · fin_cases k <;> cases r <;> rfl
    · fin_cases k <;> rfl
  | cbRes k o => exact .of_eq (storeAddrs_cbRes s k o) (rewriteOperand_storesAt (exec_cbRes k o s ▸ h))
  | cbSet k o => exact .of_eq (storeAddrs_cbSet s k o) (rewriteOperand_storesAt (exec_cbSet k o s ▸ h))
  | ldAtBcA | ldAtDeA | ldAtCA | ldAtHlN n | ldhAtNA n | ldAtNnA nn => exact storeTo_storesAt h
  | ldAtNnSp nn => exact storeSp_storesAt h
  | ldAtHlIncA | ldAtHlDecA => exact storeAStepping_storesAt h
  | callNn nn => exact callTo_storesAt h
  | prefixCb op2 => exact execPrefixCb_storesAt h
  | ldAAtBc | ldAAtDe | ldAAtC | ldhAAtN n | ldAAtNn nn => exact .none (loadFrom_bus h)
  | ldAAtHlInc | ldAAtHlDec => exact .none (loadAStepping_bus h)
  | nop | rlca | rrca | rla | rra | daa | cplA | scf | ccf | jpHl | di => cases h; exact .none rfl
  | jrDisp e | jpNn nn | addSpDisp e | ldHlSpDisp e | ldSpHl => exact .none (tickHw_withCpu_bus h)
  | ret => exact .none (returnWith_bus h)
  | reti => exact .none (returnFromInterrupt_bus h)
  | halt => exact .none (haltCpu_bus h)
  | ei => exact .none (enableInterrupts_bus h)
  | stop => cases h
  | illegalD3 | illegalDB | illegalDD | illegalE3 | illegalE4 | illegalEB | illegalEC | illegalED
  | illegalF4 | illegalFC | illegalFD => exact absurd h (raise_ne_next _ _ _)

end

/-- Settles O29: row by row, the shape stores at the row's addresses. -/
theorem busChangesOnlyByStores : Obligations.BusChangesOnlyByStores := fun _ _ _ h => exec_storesAt h

/-! ## LD (nn),SP (41_load16.md R141) -/

/-- Settles O7: the two writes complete, or the first or the second faults. -/
theorem stackPointerStore : Obligations.StackPointerStore := by
  intro nn s
  refine ⟨rfl, fun b b' hb hb' => ?_, fun kind hk => ?_, fun b kind hb hk => ?_⟩
  · refine ⟨_, (exec_ldAtNnSp nn s).trans (storeSp_next.2 ⟨b, b', hb, hb', rfl⟩), rfl, ?_⟩
    exact kept_trans (kept_withBus b' s) (kept_tick 8 (s.withBus b'))
  · rw [exec_ldAtNnSp, storeSp, writeThen_error hk]
  · rw [exec_ldAtNnSp, storeSp, writeThen_ok hb]
    exact writeThen_error hk _

end Sys2Proof.Proofs
end

section
/-! The memory frame of an instruction: what one write can disturb, what a run of writes does, and from the instruction's stores the
addresses that keep their byte. -/

namespace Sys2Proof.Proofs

open Sys2Proof.Machine Sys2Proof.Safety Sys2Proof.Laws Sys2Proof.Claims

/-! ## What a write disturbs (20_memory.md R88, R89) -/

section
variable {b b' : Bus} {w r : Word} {v : Byte}

/-- Elsewhere than in ROM, whose windows hold the banking latches, a write leaves the cartridge but for its RAM. -/
theorem write_cart (hw : b.write w v = .ok b') (hrom : 0x8000 ≤ w.toNat) :
    b'.cart = { b.cart with eram := b'.cart.eram } := by
  unfold Bus.write at hw
  cases hroute : route w <;> rw [hroute] at hw <;> dsimp only at hw
  case romFixed off | romSwitched off =>
    have ht := targetAt_of_route hroute
    simp only [TargetAt] at ht
    omega
  case eram off =>
    unfold Bus.writeEram at hw
    split at hw
    · cases hw; rfl
    · split at hw <;> cases hw
      rfl
  case dma => rw [dma_ok hw]
  case vram off => cases hw; split <;> rfl
  case oam off => cases hw; unfold Bus.storeOam; split <;> rfl
  case unmapped =>
    unfold Bus.writeUnmapped at hw
    split at hw <;> cases hw
    rfl
  all_goals cases hw; rfl

/-- With other banking latches and the same image, the cartridge reads the same outside its two banked windows. -/
theorem read_withLatches {c : Cart} (hrom : c.rom = b.cart.rom) (hswitched : ¬ (0x4000 ≤ r.toNat ∧ r.toNat < 0x8000))
    (heram : ¬ (0xA000 ≤ r.toNat ∧ r.toNat < 0xC000)) : ({ b with cart := c } : Bus).read r = b.read r := by
  unfold Bus.read
  cases hr : route r with
  | romFixed off => simp only [Cart.readFixed, hrom]
  | romSwitched off | eram off =>
    have ht := targetAt_of_route hr
    simp only [TargetAt] at ht
    omega
  | _ => rfl

/-- A write to LCDC changes what is read of LCDC, STAT and LY, and opens or closes the gates of VRAM and OAM. -/
theorem read_withLcdc (gates : Bool) (hr : ¬ (r = 0xFF40#16 ∨ r = 0xFF41#16 ∨ r = 0xFF44#16 ∨
      0x8000 ≤ r.toNat ∧ r.toNat < 0xA000 ∨ 0xFE00 ≤ r.toNat ∧ r.toNat < 0xFEA0)) :
    ({ b with ppu := b.ppu.writeLcdc gates v } : Bus).read r = b.read r := by
  unfold Bus.read
  rw [writeLcdc_eq]
  cases hroute : route r with
  | lcdc | stat | ly | vram off | oam off =>
    have ht := targetAt_of_route hroute
    simp only [TargetAt] at ht
    bv_omega
  | scy | scx | lyc | bgp | obp0 | obp1 | wy | wx => dsimp only; split <;> rfl
  | _ => rfl

/-- A write to LYC changes what is read of LYC and STAT. -/
theorem read_withLyc (hr : ¬ (r = 0xFF45#16 ∨ r = 0xFF41#16)) :
    ({ b with ppu := b.ppu.writeLyc v } : Bus).read r = b.read r := by
  unfold Bus.read
  cases hroute : route r with
  | lyc | stat =>
    have ht := targetAt_of_route hroute
    simp only [TargetAt] at ht
    bv_omega
  | _ => rfl

section
variable {m : Memory}

theorem read_withVram (hm : ∀ off, route r = .vram off → m.read off = b.vram.read off) :
    ({ b with vram := m } : Bus).read r = b.read r := by
  unfold Bus.read
  cases hroute : route r with
  | vram off => simp only [hm off hroute]
  | _ => rfl

theorem read_withWram (hm : ∀ off, route r = .wram off → m.read off = b.wram.read off) :
    ({ b with wram := m } : Bus).read r = b.read r := by
  unfold Bus.read
  cases hroute : route r with
  | wram off => simp only [hm off hroute]
  | _ => rfl

theorem read_withHram (hm : ∀ off, route r = .hram off → m.read off = b.hram.read off) :
    ({ b with hram := m } : Bus).read r = b.read r := by
  unfold Bus.read
  cases hroute : route r with
  | hram off => simp only [hm off hroute]
  | _ => rfl

/-- Another OAM with the same byte at the address. -/
theorem read_withOamByte (hm : ∀ off, route r = .oam off → m.read off = b.oam.read off) :
    ({ b with oam := m } : Bus).read r = b.read r := by
  unfold Bus.read
  cases hroute : route r with
  | oam off => simp only [hm off hroute]
  | _ => rfl

/-- Another external RAM with the same byte where the bank maps the address. -/
theorem read_withEram
    (hm : ∀ off, route r = .eram off → m.read (b.cart.ramOffset off) = b.cart.eram.read (b.cart.ramOffset off)) :
    ({ b with cart := { b.cart with eram := m } } : Bus).read r = b.read r := by
  unfold Bus.read
  cases hroute : route r with
  | eram off => simp only [Bus.readEram, ← hm off hroute]; rfl
  | _ => rfl

end

/-- An address that a write does not disturb reads after it as before. -/
theorem read_write_undisturbed (hw : b.write w v = .ok b') (hd : disturbs b w r = false) : b'.read r = b.read r := by
  unfold Bus.write at hw
  unfold disturbs at hd
  cases hroute : route w <;> rw [hroute] at hw hd <;> dsimp only at hw hd
  case romFixed off | romSwitched off =>
    cases hw
    rw [decide_eq_false_iff_not, not_or] at hd
    exact read_withLatches (writeLatch_rom _ _ _) hd.1 hd.2
  case vram off =>
    cases hw
    split
    · exact read_withVram fun off' hr => read_write_other _ (by rintro rfl; simp [hr] at hd) v
    · rfl
  case eram off =>
    unfold Bus.writeEram at hw
    split at hw
    · cases hw; rfl
    · split at hw <;> cases hw
      exact read_withEram fun off' hr => read_write_other _ (by simpa [hr] using hd) v
  case wram off =>
    cases hw
    exact read_withWram fun off' hr => read_write_other _ (by rintro rfl; simp [hr] at hd) v
  case oam off =>
    cases hw
    unfold Bus.storeOam
    split
    · exact read_withOamByte fun off' hr => read_write_other _ (by rintro rfl; simp [hr] at hd) v
    · rfl
  case hram off =>
    cases hw
    exact read_withHram fun off' hr => read_write_other _ (by rintro rfl; simp [hr] at hd) v
  case lcdc => cases hw; exact read_withLcdc _ (of_decide_eq_false hd)
  case lyc => cases hw; exact read_withLyc (of_decide_eq_false hd)
  case ly => cases hw; rfl
  case dma =>
    rw [dma_ok hw]
    refine read_withOam (fun off hr => ?_) _ _
    have ht := targetAt_of_route hr
    have := of_decide_eq_false hd
    simp only [TargetAt] at ht
    omega
  case bootOff => cases hw; exact read_withBooting (Nat.not_lt.1 (of_decide_eq_false hd)) false b
  case unmapped =>
    unfold Bus.writeUnmapped at hw
    split at hw <;> cases hw
    rfl
  -- a register that is read at its own address alone
  all_goals
    cases hw
    unfold Bus.read
    cases hr : route r <;> first | rfl | (rw [hr] at hd; cases hd)

/-- A write to ROM, which sets a banking latch, disturbs the two banked windows. -/
theorem disturbs_rom (hrom : w.toNat < 0x8000) :
    disturbs b w r = decide (0x4000 ≤ r.toNat ∧ r.toNat < 0x8000 ∨ 0xA000 ≤ r.toNat ∧ r.toNat < 0xC000) := by
  unfold disturbs
  by_cases hfixed : w.toNat < 0x4000
  · rw [route_romFixed hfixed]
  · rw [route_romSwitched (by omega) hrom]

/-- What a write disturbs stays so under a write that leaves the address alone: only the bank of external RAM could change it, and a
write that changes the bank disturbs the whole window. -/
theorem disturbs_write {w' : Word} (hw : b.write w v = .ok b') (hd : disturbs b w r = false) :
    disturbs b' w' r = disturbs b w' r := by
  unfold disturbs
  cases hroute' : route w' with
  | eram off' =>
    cases hroute : route r with
    | eram off =>
      have ht := targetAt_of_route hroute
      simp only [TargetAt] at ht
      have hrom : 0x8000 ≤ w.toNat := by
        by_contra hlt
        rw [disturbs_rom (by omega)] at hd
        have := of_decide_eq_false hd
        omega
      rw [write_cart hw hrom]
      rfl
    | _ => rfl
  | _ => rfl

theorem read_writeAll_undisturbed {stores : List (Word × Byte)} (hw : writeAll stores b = .ok b')
    (hd : ∀ p, p ∈ stores → disturbs b p.1 r = false) : b'.read r = b.read r := by
  induction stores generalizing b with
  | nil => cases hw; rfl
  | cons p rest ih =>
    obtain ⟨w, v⟩ := p
    have hfirst := hd (w, v) List.mem_cons_self
    simp only [writeAll] at hw
    split at hw
    · cases hw
    · rename_i b₁ hb₁
      rw [← read_write_undisturbed hb₁ hfirst]
      exact ih hw fun p hp => (disturbs_write hb₁ hfirst).trans (hd p (List.mem_cons_of_mem _ hp))

end

/-- Settles O30: the instruction's stores are a run of writes, none of which disturbs the address. -/
theorem undisturbedAddressesKeepTheirByte : Obligations.UndisturbedAddressesKeepTheirByte := by
  intro i s t a h hd
  obtain ⟨bytes, -, hw⟩ := exec_storesAt h
  exact read_writeAll_undisturbed hw fun p hp => hd p.1 (List.of_mem_zip hp).1

end Sys2Proof.Proofs
end

section
/-! How an access ends: by the unmapped-access policy, without cartridge RAM, or completed; and OAM DMA, whose copy loop completes
where its source page can be read. -/

namespace Sys2Proof.Proofs

open Sys2Proof.Machine Sys2Proof.Safety Sys2Proof.Laws Sys2Proof.Claims

/-! ## The copy loop of OAM DMA (20_memory.md R90 to R92) -/

section
variable {b : Bus} {page : Byte}

/-- The source address of a byte of the page. -/
def dmaSourceAddr (page : Byte) (k : Nat) : Word := wordOf page (BitVec.ofNat 8 k)

theorem toNat_dmaSourceAddr {k : Nat} (hk : k < 160) : (dmaSourceAddr page k).toNat = 256 * page.toNat + k := by
  rw [dmaSourceAddr, toNat_wordOf, BitVec.toNat_ofNat]
  omega

/-- The source pages end below OAM, so the bytes already copied do not change what is read. -/
theorem read_dmaSource_withOam (hpage : page.toNat ≤ 0xDF) {k : Nat} (hk : k < 160) (m : Memory) :
    ({ b with oam := m } : Bus).read (dmaSourceAddr page k) = b.read (dmaSourceAddr page k) := by
  refine read_withOam (fun off hr => ?_) m b
  have ht := targetAt_of_route hr
  rw [toNat_dmaSourceAddr hk] at ht
  simp only [TargetAt] at ht
  omega

/-- OAM after the last `n` of the 160 bytes have been copied from the source `src`. -/
structure CopiedOam (gate : Bool) (src : Nat → Byte) (n : Nat) (old new : Memory) : Prop where
  copied : gate = true → ∀ k, 160 - n ≤ k → k < 160 → new.read k = src k
  before : gate = true → ∀ k, k < 160 - n → new.read k = old.read k
  closed : gate = false → new = old

/-- The copy loop completes where every byte of the source can be read. -/
theorem dmaLoop_copies (hpage : page.toNat ≤ 0xDF) {src : Nat → Byte} {n : Nat} (hn : n ≤ 160)
    (hsrc : ∀ k, k < 160 → b.read (dmaSourceAddr page k) = .ok (src k)) :
    ∃ m, Bus.dmaLoop page n b = .ok { b with oam := m } ∧ CopiedOam b.ppu.oamOpen src n b.oam m := by
  induction n generalizing b with
  | zero => exact ⟨b.oam, rfl, fun _ k _ _ => by omega, fun _ _ _ => rfl, fun _ => rfl⟩
  | succ n ih =>
    have hread : b.read (wordOf page (BitVec.ofNat 8 (159 - n))) = .ok (src (159 - n)) := hsrc (159 - n) (by omega)
    simp only [Bus.dmaLoop, hread]
    unfold Bus.storeOam
    cases hgate : b.ppu.oamOpen with
    | false =>
      obtain ⟨m, hm, hcopied⟩ := ih (by omega) hsrc
      have hclosed : m = b.oam := hcopied.closed hgate
      exact ⟨m, by simpa using hm, by simp, by simp, fun _ => hclosed⟩
    | true =>
      obtain ⟨m, hm, hcopied⟩ := ih (b := { b with oam := b.oam.write (159 - n) (src (159 - n)) }) (by omega)
        fun k hk => (read_dmaSource_withOam hpage hk _).trans (hsrc k hk)
      refine ⟨m, by simpa using hm, fun _ k hk hk' => ?_, fun _ k hk => ?_, by simp⟩
      · by_cases hlast : k = 159 - n
        · subst hlast
          rw [hcopied.before hgate _ (by omega)]
          exact read_write_same _ _ _
        · exact hcopied.copied hgate k (by omega) hk'
      · rw [hcopied.before hgate k (by omega)]
        exact read_write_other _ (by omega) _

end

/-! ## How an access ends (20_memory.md R60, R62, R77, R91) -/

section
variable {b : Bus} {a : Word}

theorem route_unmapped (h : Unmapped a) : route a = .unmapped := route_eq h

theorem not_cartRamAbsent_of_unreadable (h : UnreadableAddr a) : ¬ CartRamAbsent b a := by
  rintro ⟨hlow, hhigh, -, -⟩
  rcases h with h | rfl | rfl
  · unfold Unmapped at h
    omega
  · simp at hhigh
  · simp at hhigh

theorem write_unmapped (h : Unmapped a) (v : Byte) : b.write a v = b.writeUnmapped a := by
  unfold Bus.write
  rw [route_unmapped h]

theorem read_unreadable (h : UnreadableAddr a) : b.read a = b.readUnmapped a := by
  rcases h with h | rfl | rfl
  · unfold Bus.read
    rw [route_unmapped h]
  · rfl
  · rfl

theorem read_eram (hlow : 0xA000 ≤ a.toNat) (hhigh : a.toNat < 0xC000) : b.read a = b.readEram a (a.toNat - 0xA000) := by
  unfold Bus.read
  rw [route_eram hlow hhigh]

theorem write_eram (hlow : 0xA000 ≤ a.toNat) (hhigh : a.toNat < 0xC000) (v : Byte) :
    b.write a v = b.writeEram a (a.toNat - 0xA000) v := by
  unfold Bus.write
  rw [route_eram hlow hhigh]

theorem read_cartRamAbsent (h : CartRamAbsent b a) : b.read a = .error (.cartRamAbsent a) := by
  obtain ⟨hlow, hhigh, hen, hsize⟩ := h
  simp [read_eram hlow hhigh, Bus.readEram, hen, hsize]

theorem write_cartRamAbsent (h : CartRamAbsent b a) (v : Byte) : b.write a v = .error (.cartRamAbsent a) := by
  obtain ⟨hlow, hhigh, hen, hsize⟩ := h
  simp [write_eram hlow hhigh, Bus.writeEram, hen, hsize]

theorem ramSize_of_present {off : Nat} (hroute : route a = .eram off) (hpresent : ¬ CartRamAbsent b a)
    (hen : b.cart.ramEn = true) : b.cart.ramSize.bytes ≠ 0 := by
  have ht := targetAt_of_route hroute
  simp only [TargetAt] at ht
  exact fun hsize => hpresent ⟨by omega, by omega, hen, hsize⟩

/-- How a read ends: by the policy, without cartridge RAM, or with a byte. -/
theorem read_cases (b : Bus) (a : Word) :
    (UnreadableAddr a ∧ b.read a = b.readUnmapped a) ∨ (CartRamAbsent b a ∧ b.read a = .error (.cartRamAbsent a)) ∨
    (¬ UnreadableAddr a ∧ ¬ CartRamAbsent b a ∧ ∃ v, b.read a = .ok v) := by
  by_cases hu : UnreadableAddr a
  · exact .inl ⟨hu, read_unreadable hu⟩
  by_cases ha : CartRamAbsent b a
  · exact .inr (.inl ⟨ha, read_cartRamAbsent ha⟩)
  refine .inr (.inr ⟨hu, ha, ?_⟩)
  unfold Bus.read
  cases hroute : route a with
  | eram off =>
    unfold Bus.readEram
    cases hen : b.cart.ramEn with
    | false => exact ⟨_, rfl⟩
    | true => exact ⟨_, if_neg (ramSize_of_present hroute ha hen)⟩
  | unmapped => exact absurd (.inl (targetAt_of_route hroute)) hu
  | dma => exact absurd (.inr (.inl (BitVec.eq_of_toNat_eq (targetAt_of_route hroute)))) hu
  | bootOff => exact absurd (.inr (.inr (BitVec.eq_of_toNat_eq (targetAt_of_route hroute)))) hu
  | _ => exact ⟨_, rfl⟩

/-- How a write elsewhere than to 0xFF46 ends. -/
theorem write_cases (b : Bus) {a : Word} (hdma : a ≠ 0xFF46#16) (v : Byte) :
    (Unmapped a ∧ b.write a v = b.writeUnmapped a) ∨ (CartRamAbsent b a ∧ b.write a v = .error (.cartRamAbsent a)) ∨
    (¬ Unmapped a ∧ ¬ CartRamAbsent b a ∧ ∃ b', b.write a v = .ok b') := by
  by_cases hu : Unmapped a
  · exact .inl ⟨hu, write_unmapped hu v⟩
  by_cases ha : CartRamAbsent b a
  · exact .inr (.inl ⟨ha, write_cartRamAbsent ha v⟩)
  refine .inr (.inr ⟨hu, ha, ?_⟩)
  unfold Bus.write
  cases hroute : route a with
  | eram off =>
    unfold Bus.writeEram
    cases hen : b.cart.ramEn with
    | false => exact ⟨_, rfl⟩
    | true => exact ⟨_, if_neg (ramSize_of_present hroute ha hen)⟩
  | unmapped => exact absurd (targetAt_of_route hroute) hu
  | dma => exact (hdma (BitVec.eq_of_toNat_eq (targetAt_of_route hroute))).elim
  | _ => exact ⟨_, rfl⟩


/-! OAM DMA: the page is out of range, its source has no RAM behind it, or the loop copies it. -/

section
variable {page : Byte}

theorem dma_inRange (hlow : 0x80 ≤ page.toNat) (hhigh : page.toNat ≤ 0xDF) : b.dma page = b.dmaLoop page 160 :=
  if_neg (by omega)

theorem dma_cartRamAbsent (hlow : 0x80 ≤ page.toNat) (hhigh : page.toNat ≤ 0xDF)
    (habsent : CartRamAbsent b (wordOf page 0x00#8)) : b.dma page = .error (.cartRamAbsent (wordOf page 0x00#8)) := by
  rw [dma_inRange hlow hhigh]
  simp only [Bus.dmaLoop, Nat.sub_self, read_cartRamAbsent habsent]

/-- The whole page can be read where its first byte does not lack cartridge RAM. -/
theorem dmaSource_readable (hlow : 0x80 ≤ page.toNat) (hhigh : page.toNat ≤ 0xDF)
    (hpresent : ¬ CartRamAbsent b (wordOf page 0x00#8)) {k : Nat} (hk : k < 160) :
    ∃ v, b.read (dmaSourceAddr page k) = .ok v := by
  have haddr : (dmaSourceAddr page k).toNat = 256 * page.toNat + k := toNat_dmaSourceAddr hk
  rcases read_cases b (dmaSourceAddr page k) with ⟨hu, -⟩ | ⟨⟨ha, ha', hen, hsize⟩, -⟩ | ⟨-, -, h⟩
  · unfold UnreadableAddr Unmapped at hu
    bv_omega
  · have hfirst : (wordOf page 0x00#8).toNat = 256 * page.toNat := toNat_wordOf page 0x00#8
    exact absurd ⟨by omega, by omega, hen, hsize⟩ hpresent
  · exact h

theorem dma_copies (hlow : 0x80 ≤ page.toNat) (hhigh : page.toNat ≤ 0xDF)
    (hpresent : ¬ CartRamAbsent b (wordOf page 0x00#8)) :
    ∃ src m, (∀ k, k < 160 → b.read (dmaSourceAddr page k) = .ok (src k)) ∧ b.dma page = .ok { b with oam := m } ∧
      CopiedOam b.ppu.oamOpen src 160 b.oam m := by
  have hreadable : ∀ k, ∃ v, k < 160 → b.read (dmaSourceAddr page k) = .ok v := fun k =>
    if hk : k < 160 then (dmaSource_readable hlow hhigh hpresent hk).imp fun _ h _ => h else ⟨0, fun h => absurd h hk⟩
  choose src hsrc using hreadable
  obtain ⟨m, hm, hcopied⟩ := dmaLoop_copies hhigh (Nat.le_refl 160) hsrc
  exact ⟨src, m, hsrc, (dma_inRange hlow hhigh).trans hm, hcopied⟩

end

/-! The unmapped-access policy. -/

theorem readUnmapped_ok_iff : (∃ w, b.readUnmapped a = .ok w) ↔ b.params.busPolicy ≠ .strict := by
  unfold Bus.readUnmapped
  cases b.params.busPolicy <;> simp

theorem writeUnmapped_ok_iff : (∃ b', b.writeUnmapped a = .ok b') ↔ b.params.busPolicy ≠ .strict := by
  unfold Bus.writeUnmapped
  cases b.params.busPolicy <;> simp

theorem readUnmapped_busFault {at_ : Word} {access : Access} (h : b.readUnmapped a = .error (.busFault at_ access)) :
    b.params.busPolicy = .strict ∧ at_ = a ∧ access = .read := by
  unfold Bus.readUnmapped at h
  split at h
  · cases h; exact ⟨‹_›, rfl, rfl⟩
  · cases h

theorem writeUnmapped_busFault {at_ : Word} {access : Access} (h : b.writeUnmapped a = .error (.busFault at_ access)) :
    b.params.busPolicy = .strict ∧ at_ = a ∧ access = .write := by
  unfold Bus.writeUnmapped at h
  split at h
  · cases h; exact ⟨‹_›, rfl, rfl⟩
  · cases h

/-- OAM DMA raises no bus fault: its faults are the page's and the absent RAM's. -/
theorem dma_ne_busFault (page : Byte) (at_ : Word) (access : Access) : b.dma page ≠ .error (.busFault at_ access) := by
  intro h
  by_cases hrange : page.toNat < 0x80 ∨ 0xDF < page.toNat
  · rw [Bus.dma, if_pos hrange] at h
    cases h
  by_cases habsent : CartRamAbsent b (wordOf page 0x00#8)
  · rw [dma_cartRamAbsent (by omega) (by omega) habsent] at h
    cases h
  · obtain ⟨src, m, -, hm, -⟩ := dma_copies (by omega) (by omega) habsent
    rw [hm] at h
    cases h

end

theorem not_unmapped_dma : ¬ Unmapped 0xFF46#16 := by
  unfold Unmapped
  decide

/-- Settles O35: an access follows the policy, lacks cartridge RAM, or completes. -/
theorem unmappedAccessPolicy : Obligations.UnmappedAccessPolicy := by
  intro b a v
  refine ⟨fun hu => ?_, fun hu => ?_, fun at_ access h => ?_, fun at_ access h => ?_⟩
  · rw [read_unreadable hu, Bus.readUnmapped]
    exact ⟨fun hp => by rw [hp], fun hp => by rw [hp]⟩
  · rw [write_unmapped hu, Bus.writeUnmapped]
    exact ⟨fun hp => by rw [hp], fun hp => by rw [hp]⟩
  · rcases read_cases b a with ⟨hu, hr⟩ | ⟨-, hr⟩ | ⟨-, -, w, hr⟩ <;> rw [hr] at h
    · exact ⟨hu, readUnmapped_busFault h⟩
    · cases h
    · cases h
  · by_cases hdma : a = 0xFF46#16
    · subst hdma
      exact absurd h (dma_ne_busFault v at_ access)
    rcases write_cases b hdma v with ⟨hu, hw⟩ | ⟨-, hw⟩ | ⟨-, -, b', hw⟩ <;> rw [hw] at h
    · exact ⟨hu, writeUnmapped_busFault h⟩
    · cases h
    · cases h

/-- Settles O36: each way an access ends meets or misses the conditions. -/
theorem mappedAccessesComplete : Obligations.MappedAccessesComplete := by
  intro b a v
  refine ⟨?_, fun hdma => ?_, ?_⟩
  · rcases read_cases b a with ⟨hu, hr⟩ | ⟨ha, hr⟩ | ⟨hu, ha, hr⟩
    · rw [hr, readUnmapped_ok_iff]
      simp [hu, not_cartRamAbsent_of_unreadable hu]
    · simp [hr, ha]
    · simp [hr, hu, ha]
  · rcases write_cases b hdma v with ⟨hu, hw⟩ | ⟨ha, hw⟩ | ⟨hu, ha, hw⟩
    · rw [hw, writeUnmapped_ok_iff]
      simp [hu, not_cartRamAbsent_of_unreadable (.inl hu)]
    · simp [hw, ha]
    · simp [hw, hu, ha]
  · change (∃ b', b.dma v = .ok b') ↔ _
    by_cases hrange : v.toNat < 0x80 ∨ 0xDF < v.toNat
    · rw [Bus.dma, if_pos hrange]
      simp only [reduceCtorEq, exists_false, false_iff]
      omega
    by_cases habsent : CartRamAbsent b (wordOf v 0x00#8)
    · rw [dma_cartRamAbsent (by omega) (by omega) habsent]
      simp [habsent]
    · obtain ⟨src, m, -, hm, -⟩ := dma_copies (by omega) (by omega) habsent
      exact ⟨fun _ => ⟨by omega, by omega, habsent⟩, fun _ => ⟨_, hm⟩⟩

/-- Settles O44: the page is out of range, copied, or not readable. -/
theorem oamDmaCopies : Obligations.OamDmaCopies := by
  intro b page
  refine ⟨fun hrange => if_pos hrange, fun hlow hhigh hpresent => ?_, dma_cartRamAbsent⟩
  obtain ⟨src, m, hsrc, hm, hcopied⟩ := dma_copies hlow hhigh hpresent
  refine ⟨_, hm, rfl, fun k hk => dmaLoop_above ((dma_inRange hlow hhigh).symm.trans hm) hk, ?_⟩
  split
  case isTrue hgate => exact fun k hk => by rw [hcopied.copied hgate k (by omega) hk]; exact hsrc k hk
  case isFalse hgate => exact hcopied.closed (Bool.eq_false_iff.2 hgate)

end Sys2Proof.Proofs
end

section
/-! The memory windows: what the RAMs, the gated memories and the cartridge's banked windows read and store. -/

namespace Sys2Proof.Proofs

open Sys2Proof.Machine Sys2Proof.Safety Sys2Proof.Laws Sys2Proof.Claims

/-! ## Work RAM and high RAM (20_memory.md R63 to R65) -/

section
variable {b : Bus} {a : Word} {off : Nat}

theorem read_wram (h : route a = .wram off) : b.read a = .ok (b.wram.read off) := by
  unfold Bus.read
  rw [h]

theorem write_wram (h : route a = .wram off) (v : Byte) : b.write a v = .ok { b with wram := b.wram.write off v } := by
  unfold Bus.write
  rw [h]

theorem read_write_wram (h : route a = .wram off) (v : Byte) :
    ({ b with wram := b.wram.write off v } : Bus).read a = .ok v := by
  rw [read_wram h, read_write_same]

theorem write_hram (h : route a = .hram off) (v : Byte) : b.write a v = .ok { b with hram := b.hram.write off v } := by
  unfold Bus.write
  rw [h]

theorem read_write_hram (h : route a = .hram off) (v : Byte) :
    ({ b with hram := b.hram.write off v } : Bus).read a = .ok v := by
  unfold Bus.read
  rw [h]
  exact congrArg Except.ok (read_write_same _ _ _)

/-- The mirror of a work RAM address (R64). -/
theorem route_mirror (hlow : 0xC000 ≤ a.toNat) (hhigh : a.toNat < 0xDE00) :
    route (a + 0x2000#16) = .wram (a.toNat - 0xC000) := by
  have hmirror : (a + 0x2000#16).toNat = a.toNat + 0x2000 := by bv_omega
  rw [route_echo (by omega) (by omega)]
  exact congrArg Target.wram (by omega)

end

/-- Settles O37: each address and its mirror name one byte. -/
theorem ramHoldsWhatWasWritten : Obligations.RamHoldsWhatWasWritten := by
  intro b a v
  refine ⟨fun hlow hhigh => ?_, fun hlow hhigh => ?_, fun hlow hhigh => ?_⟩
  · have ha : route a = .wram (a.toNat - 0xC000) := route_wram hlow (by omega)
    have hm := route_mirror hlow hhigh
    exact ⟨_, write_wram ha v, write_wram hm v, read_write_wram ha v, read_write_wram hm v,
      (read_wram hm).trans (read_wram ha).symm, rfl, fun k hk => read_write_other _ hk v⟩
  · have ha : route a = .wram (a.toNat - 0xC000) := route_wram (by omega) hhigh
    exact ⟨_, write_wram ha v, read_write_wram ha v, rfl, fun k hk => read_write_other _ hk v⟩
  · have ha := route_hram hlow hhigh
    exact ⟨_, write_hram ha v, read_write_hram ha v, rfl, fun k hk => read_write_other _ hk v⟩

/-! ## VRAM and OAM (R66, R67) -/

/-- The VRAM gate is closed in mode 3 alone. -/
theorem vramOpen_eq (p : Ppu) : p.vramOpen = !decide (p.mode.code = 3#2) := by
  unfold Ppu.vramOpen
  cases p.mode <;> rfl

/-- The OAM gate is closed in modes 2 and 3. -/
theorem oamOpen_eq (p : Ppu) : p.oamOpen = !decide (p.mode.code = 2#2 ∨ p.mode.code = 3#2) := by
  unfold Ppu.oamOpen
  cases p.mode <;> rfl

section
variable {b : Bus} {a : Word} {off : Nat}

theorem read_vram (h : route a = .vram off) : b.read a = .ok (if b.ppu.vramOpen then b.vram.read off else 0xFF#8) := by
  unfold Bus.read
  rw [h]

theorem write_vram (h : route a = .vram off) (v : Byte) :
    b.write a v = .ok (if b.ppu.vramOpen then { b with vram := b.vram.write off v } else b) := by
  unfold Bus.write
  rw [h]

theorem read_oam (h : route a = .oam off) : b.read a = .ok (if b.ppu.oamOpen then b.oam.read off else 0xFF#8) := by
  unfold Bus.read
  rw [h]

theorem write_oam (h : route a = .oam off) (v : Byte) :
    b.write a v = .ok (if b.ppu.oamOpen then { b with oam := b.oam.write off v } else b) := by
  unfold Bus.write
  rw [h]
  rfl

end

/-- Settles O38: each gate is open or closed by the mode. -/
theorem videoMemoryGates : Obligations.VideoMemoryGates := by
  intro b a v
  refine ⟨fun hlow hhigh => ?_, fun hlow hhigh => ?_⟩
  · have ha := route_vram hlow hhigh
    have hgate := vramOpen_eq b.ppu
    split
    case isTrue hmode => simp [read_vram ha, write_vram ha, hgate, hmode]
    case isFalse hmode =>
      have hopen : b.ppu.vramOpen = true := by simp [hgate, hmode]
      rw [read_vram ha, write_vram ha, if_pos hopen, if_pos hopen]
      refine ⟨rfl, _, rfl, ?_, rfl, fun k hk => read_write_other _ hk v⟩
      rw [read_vram ha, if_pos hopen, read_write_same]
  · have ha := route_oam hlow hhigh
    have hgate := oamOpen_eq b.ppu
    split
    case isTrue hmode => simp [read_oam ha, write_oam ha, hgate, hmode]
    case isFalse hmode =>
      have hopen : b.ppu.oamOpen = true := by simp [hgate, hmode]
      rw [read_oam ha, write_oam ha, if_pos hopen, if_pos hopen]
      refine ⟨rfl, _, rfl, ?_, rfl, fun k hk => read_write_other _ hk v⟩
      rw [read_oam ha, if_pos hopen, read_write_same]

/-! ## The cartridge (R70 to R77) -/

/-- The latch a write below 0x8000 sets, over the naturals. -/
theorem writeLatch_eq (a : Nat) (v : Byte) (c : Cart) :
    c.writeLatch a v =
      if a < 0x2000 then { c with ramEn := decide (v.toNat % 16 = 0xA) }
      else if a < 0x4000 then { c with bankLo := BitVec.ofNat 5 v.toNat }
      else if a < 0x6000 then { c with bankHi := BitVec.ofNat 2 v.toNat }
      else { c with bankMode := decide (v.toNat % 2 = 1) } := by
  have hen : (v.extractLsb' 0 4 == 0xA#4) = decide (v.toNat % 16 = 0xA) := by
    rw [Bool.beq_eq_decide_eq, extractLsb'_eq_ofNat, pow_zero, Nat.div_one]
    exact decide_eq_decide.2 (by bv_omega)
  have hmode : v.getLsbD 0 = decide (v.toNat % 2 = 1) := by
    simp [BitVec.getLsbD, Nat.testBit_zero]
  unfold Cart.writeLatch
  rw [hen, hmode, extractLsb'_eq_ofNat, extractLsb'_eq_ofNat, pow_zero, Nat.div_one]

theorem write_rom {b : Bus} {a : Word} (ha : a.toNat < 0x8000) (v : Byte) :
    b.write a v = .ok { b with cart := b.cart.writeLatch a.toNat v } := by
  unfold Bus.write
  by_cases hfixed : a.toNat < 0x4000
  · rw [route_romFixed hfixed]
  · rw [route_romSwitched (by omega) ha]
    dsimp only
    rw [Nat.add_sub_cancel' (by omega)]

/-- Settles O39: a write to ROM sets a latch. -/
theorem bankingLatchWrites : Obligations.BankingLatchWrites := by
  intro b a v ha
  rw [write_rom ha, writeLatch_eq]

theorem nRom_eq (c : Cart) : c.nRom = 2 ^ (c.romCode.val + 1) := by
  rw [Cart.nRom, Nat.shiftLeft_eq, Nat.pow_succ, Nat.mul_comm]

/-- The requested bank as a number (R73): BANK_HI above the five bits of BANK_LO. -/
theorem requestedBank_eq (c : Cart) :
    c.requestedBank = if c.bankMode then c.bankLo.toNat else 32 * c.bankHi.toNat + c.bankLo.toNat := by
  unfold Cart.requestedBank
  rw [← Nat.shiftLeft_add_eq_or_of_lt c.bankLo.isLt, Nat.shiftLeft_eq, Nat.mul_comm]

/-- Masking by the bank count less one is the remainder (R73). -/
theorem romBank_eq (c : Cart) : c.romBank = romBankNumber c := by
  unfold Cart.romBank romBankNumber remapBank
  rw [requestedBank_eq, nRom_eq, Nat.and_two_pow_sub_one_eq_mod]

theorem romBankNumber_lt (c : Cart) : romBankNumber c < c.nRom :=
  Nat.mod_lt _ (by rw [nRom_eq]; exact Nat.two_pow_pos _)

/-- Settles O40: the fixed window, the banked window, and the bank number's bound. -/
theorem romWindows : Obligations.RomWindows := by
  intro b a
  refine ⟨fun ha hboot => ?_, fun hlow hhigh => ?_, romBankNumber_lt _, romBank_eq _⟩
  · unfold Bus.read
    rw [route_romFixed ha]
    refine congrArg Except.ok (if_neg ?_)
    rw [Bool.and_eq_true, decide_eq_true_eq]
    rcases hboot with habove | hoff
    · omega
    · simp [hoff]
  · unfold Bus.read
    rw [route_romSwitched hlow hhigh, ← romBank_eq]
    rfl

section
variable {b : Bus} (hen : b.cart.ramEn = true) (hsize : b.cart.ramSize.bytes ≠ 0)
include hen hsize

theorem readEram_open (a : Word) (off : Nat) : b.readEram a off = .ok (b.cart.eram.read (b.cart.ramOffset off)) := by
  simp [Bus.readEram, hen, hsize]

theorem writeEram_open (a : Word) (off : Nat) (v : Byte) :
    b.writeEram a off v = .ok { b with cart := { b.cart with eram := b.cart.eram.write (b.cart.ramOffset off) v } } := by
  simp [Bus.writeEram, hen, hsize]

theorem readEram_written (a : Word) (off : Nat) (v : Byte) :
    ({ b with cart := { b.cart with eram := b.cart.eram.write (b.cart.ramOffset off) v } } : Bus).readEram a off = .ok v :=
  (readEram_open (b := { b with cart := { b.cart with eram := b.cart.eram.write (b.cart.ramOffset off) v } }) hen hsize a
    off).trans (congrArg Except.ok (read_write_same _ (b.cart.ramOffset off) v))

end

/-- Settles O41: the window is closed, has no RAM behind it, or reaches one byte. -/
theorem externalRamWindow : Obligations.ExternalRamWindow := by
  intro b a v hlow hhigh bank off
  have hoff : b.cart.ramOffset (a.toNat - 0xA000) = off := rfl
  rw [read_eram hlow hhigh, write_eram hlow hhigh]
  split
  case isTrue hclosed => simp [Bus.readEram, Bus.writeEram, hclosed]
  case isFalse hopen =>
    have hen : b.cart.ramEn = true := Bool.eq_true_of_not_eq_false hopen
    split
    case isTrue hsize => simp [Bus.readEram, Bus.writeEram, hen, hsize]
    case isFalse hsize =>
      rw [readEram_open hen hsize, writeEram_open hen hsize, hoff]
      refine ⟨rfl, _, rfl, ?_, rfl, fun k hk => read_write_other _ hk v⟩
      exact (read_eram hlow hhigh).trans (readEram_written hen hsize a _ v)

end Sys2Proof.Proofs
end

section
/-! The launch: the checks of a header and a save file as conditions on numbers, the arrays a launch is built from, and the machine
`construct` gives. -/

namespace Sys2Proof.Proofs

open Sys2Proof.Machine Sys2Proof.Safety Sys2Proof.Laws Sys2Proof.Claims

/-! ## The checks (20_memory.md R82, R83, 70_reset_and_hazards.md R303) -/

/-- The checksum's loop subtracts each byte and one more. -/
theorem foldl_checksum (bytes : List Byte) (x : Byte) :
    bytes.foldl (fun x v => x - v - 1#8) x = x - BitVec.ofNat 8 (bytes.map fun v => v.toNat + 1).sum := by
  induction bytes generalizing x with
  | nil => simp
  | cons v rest ih =>
    rw [List.foldl_cons, ih, List.map_cons, List.sum_cons]
    bv_omega

theorem headerChecksum_eq_iff (rom : List Byte) (check : Byte) :
    headerChecksum rom = check ↔
      ((((rom.drop 0x134).take 25).map fun v => v.toNat + 1).sum + check.toNat) % 256 = 0 := by
  unfold headerChecksum
  rw [foldl_checksum]
  generalize (((rom.drop 0x134).take 25).map fun v => v.toNat + 1).sum = sum
  bv_omega

/-- The RAM-size codes and the sizes they stand for (R83). -/
def ramSizes : List (Nat × Nat) := [(0, 0), (1, 0x800), (2, 0x2000), (3, 0x8000), (4, 0x20000), (5, 0x10000)]

theorem ramSize_mem {code : Nat} {size : RamSize} (h : RamSize.ofCode code = some size) : (code, size.bytes) ∈ ramSizes := by
  unfold RamSize.ofCode at h
  split at h <;> cases h <;> decide

theorem ramSize_of_mem {code size : Nat} (h : (code, size) ∈ ramSizes) :
    ∃ r, RamSize.ofCode code = some r ∧ r.bytes = size := by
  simp only [ramSizes, List.mem_cons, Prod.mk.injEq, List.not_mem_nil, or_false] at h
  rcases h with ⟨rfl, rfl⟩ | ⟨rfl, rfl⟩ | ⟨rfl, rfl⟩ | ⟨rfl, rfl⟩ | ⟨rfl, rfl⟩ | ⟨rfl, rfl⟩ <;> exact ⟨_, rfl, rfl⟩

theorem romSizeCode_eq_some_iff (code : Nat) (k : Fin 9) : romSizeCode code = some k ↔ code = k.val := by
  unfold romSizeCode
  split
  · simp [Fin.ext_iff]
  · simp only [reduceCtorEq, false_iff]
    omega

theorem save_any_eq_false_iff (save : Option (List Byte)) (size : Nat) :
    (save.any fun bytes => !(bytes.length == size)) = false ↔ ∀ bytes, save = some bytes → bytes.length = size := by
  cases save <;> simp

/-- What `validate` checks, with the sizes it finds. -/
structure Validated (input : LaunchInput) (k : Fin 9) (size : RamSize) : Prop where
  header : 0x150 ≤ input.rom.length
  checksum : headerChecksum input.rom = romByte input.rom 0x14D
  romCode : (romByte input.rom 0x148).toNat = k.val
  ramCode : RamSize.ofCode (romByte input.rom 0x149).toNat = some size
  length : input.rom.length = 0x8000 * 2 ^ k.val
  save : ∀ bytes, input.save = some bytes → bytes.length = size.bytes

theorem validate_ok_iff {input : LaunchInput} {k : Fin 9} {size : RamSize} :
    validate input = .ok (k, size) ↔ Validated input k size := by
  unfold validate
  constructor
  · intro h
    split at h
    · cases h
    split at h
    · cases h
    split at h
    · split at h
      · cases h
      split at h
      · cases h
      case _ hheader hchecksum _ _ _ _ hrom hram hlength hsave =>
        cases h
        exact
          { header := Nat.not_lt.1 hheader
            checksum := not_not.1 hchecksum
            romCode := (romSizeCode_eq_some_iff _ _).1 hrom
            ramCode := hram
            length := (not_not.1 hlength).trans (Nat.shiftLeft_eq _ _)
            save := (save_any_eq_false_iff _ _).1 (Bool.eq_false_iff.2 hsave) }
    · cases h
  · rintro ⟨hheader, hchecksum, hrom, hram, hlength, hsave⟩
    rw [if_neg (Nat.not_lt.2 hheader), if_neg (not_not.2 hchecksum), (romSizeCode_eq_some_iff _ _).2 hrom, hram]
    dsimp only
    rw [if_neg (not_not.2 (hlength.trans (Nat.shiftLeft_eq _ _).symm)),
      if_neg (Bool.eq_false_iff.1 ((save_any_eq_false_iff _ _).2 hsave))]

/-- The checks as R82, R83 and R303 state them. -/
theorem validated_iff (input : LaunchInput) :
    (∃ k size, Validated input k size) ↔
      0x150 ≤ input.rom.length ∧
      ((((input.rom.drop 0x134).take 25).map fun v => v.toNat + 1).sum + (romByte input.rom 0x14D).toNat) % 256 = 0 ∧
      (romByte input.rom 0x148).toNat ≤ 8 ∧ input.rom.length = 0x8000 * 2 ^ (romByte input.rom 0x148).toNat ∧
      ∃ size, ((romByte input.rom 0x149).toNat, size) ∈ ramSizes ∧ ∀ bytes, input.save = some bytes → bytes.length = size := by
  constructor
  · rintro ⟨k, size, h⟩
    refine ⟨h.header, (headerChecksum_eq_iff _ _).1 h.checksum, ?_, ?_, size.bytes, ramSize_mem h.ramCode, h.save⟩
    · rw [h.romCode]
      exact Nat.le_of_lt_succ k.isLt
    · rw [h.romCode, h.length]
  · rintro ⟨hheader, hchecksum, hcode, hlength, size, hsize, hsave⟩
    obtain ⟨r, hr, rfl⟩ := ramSize_of_mem hsize
    exact ⟨⟨_, Nat.lt_succ_of_le hcode⟩, r, hheader, (headerChecksum_eq_iff _ _).2 hchecksum, rfl, hr, hlength, hsave⟩

/-! ## The reset state (70_reset_and_hazards.md R300) -/

/-- Line 0 fits both modes a reset can start in. -/
theorem lineFits_zero (stopped : Bool) : LineFits (if stopped then .hBlank else .oamSearch) 0 := by
  cases stopped <;> exact Nat.zero_lt_succ _

/-- With its arrays in order, a reset state meets the invariant. -/
theorem inv_atReset (launch : Launch) (harrays : ArraysOk (State.atReset launch).bus) : Inv (State.atReset launch) where
  ppu :=
    { clock := Nat.lt_of_lt_of_le (Nat.zero_lt_succ 79) (duration_ge _)
      line := lineFits_zero _
      coin := rfl
      off := fun hstopped => ⟨if_pos hstopped, rfl, rfl⟩ }
  arrays := harrays
  requests := ⟨rfl, rfl, rfl⟩
  latches := ⟨Nat.zero_le _, fun _ => rfl, fun _ => rfl, fun hhalted => by cases hhalted⟩
  status := rfl

/-! ## What a launch takes from its input (R287) -/

/-- The launch that `construct` resets. -/
def launchOf (input : LaunchInput) (k : Fin 9) (size : RamSize) : Launch :=
  { params := input.params
    rom := Memory.ofBytes input.rom
    romCode := k
    eram := initialEram input.save
    ramSize := size
    bootImage := input.bootImage.map fun image => Memory.ofBytes image.toList
    regs := input.regs
    obp0 := input.obp0
    obp1 := input.obp1
    vram := Memory.ofBytes input.vram.toList
    oam := Memory.ofBytes input.oam.toList
    wram := Memory.ofBytes input.wram.toList
    hram := Memory.ofBytes input.hram.toList }

theorem construct_ok_iff {input : LaunchInput} {s : State} :
    construct input = .ok s ↔ ∃ k size, Validated input k size ∧ s = State.atReset (launchOf input k size) := by
  unfold construct
  cases hv : validate input with
  | error e =>
    simp only [reduceCtorEq, false_iff, not_exists, not_and]
    intro k size h
    rw [validate_ok_iff.2 h] at hv
    cases hv
  | ok p =>
    obtain ⟨k, size⟩ := p
    constructor
    · intro h
      cases h
      exact ⟨k, size, validate_ok_iff.1 hv, rfl⟩
    · rintro ⟨k', size', h, rfl⟩
      cases hv.symm.trans (validate_ok_iff.2 h)
      rfl

theorem exists_construct_iff (input : LaunchInput) :
    (∃ s, construct input = .ok s) ↔ ∃ k size, Validated input k size := by
  simp only [construct_ok_iff]
  exact ⟨fun ⟨_, k, size, h, _⟩ => ⟨k, size, h⟩, fun ⟨k, size, h⟩ => ⟨_, k, size, h, rfl⟩⟩

section
variable {n : Nat}

theorem arrayOk_vector (bytes : Vector Byte n) : ArrayOk n (Memory.ofBytes bytes.toList) := by
  have h := arrayOk_ofBytes bytes.toList
  rwa [Vector.length_toList] at h

theorem beginsWith_vector (bytes : Vector Byte n) : BeginsWith (Memory.ofBytes bytes.toList) bytes := by
  intro k hk
  rw [read_ofBytes, List.getD_eq_getElem _ _ (by simpa using hk), Vector.getElem_toList]

end

section
variable {input : LaunchInput} {k : Fin 9} {size : RamSize}

theorem Validated.arraysOk (h : Validated input k size) : ArraysOk (State.atReset (launchOf input k size)).bus where
  boot := by
    change ArrayOk 0x100 ((input.bootImage.map fun image => Memory.ofBytes image.toList).getD [])
    cases input.bootImage with
    | none => exact arrayOk_nil _
    | some image => exact arrayOk_vector image
  rom := by
    have hsize : Cart.nRom (State.atReset (launchOf input k size)).bus.cart * 0x4000 = input.rom.length := by
      rw [nRom_eq, h.length, Nat.pow_succ]
      change 2 ^ k.val * 2 * 0x4000 = _
      omega
    rw [hsize]
    exact arrayOk_ofBytes input.rom
  eram := by
    change ArrayOk size.bytes (Memory.ofBytes (input.save.getD []))
    cases hs : input.save with
    | none => exact arrayOk_nil _
    | some bytes =>
      rw [← h.save bytes hs]
      exact arrayOk_ofBytes bytes
  vram := arrayOk_vector _
  oam := arrayOk_vector _
  wram := arrayOk_vector _
  hram := arrayOk_vector _

theorem supplies_launchOf (input : LaunchInput) (k : Fin 9) (size : RamSize) : Supplies input (launchOf input k size) where
  params := rfl
  regs := rfl
  obp := ⟨rfl, rfl⟩
  rom j _ := read_ofBytes input.rom j
  eram j := read_ofBytes (input.save.getD []) j
  noBoot h := by simp [launchOf, h]
  boot image h := ⟨_, by simp [launchOf, h], beginsWith_vector image⟩
  vram := beginsWith_vector _
  oam := beginsWith_vector _
  wram := beginsWith_vector _
  hram := beginsWith_vector _

/-- The save of a machine just built gives the save file back. -/
theorem Validated.saveImage (h : Validated input k size) {bytes : List Byte} (hs : input.save = some bytes) :
    (State.atReset (launchOf input k size)).saveImage = bytes := by
  have hlength : bytes.length = size.bytes := h.save bytes hs
  refine List.ext_getElem ((length_toBytes _ _).trans hlength.symm) fun j hj hj' => ?_
  refine (getElem_toBytes _ _ j hj).trans ?_
  change (Memory.ofBytes (input.save.getD [])).read j = _
  rw [hs, read_ofBytes]
  exact List.getD_eq_getElem _ _ hj'

end

/-- Settles O60: `construct` answers the reset state of a validated launch, whose arrays are in order. -/
theorem launchChecksAndSave : Obligations.LaunchChecksAndSave := by
  intro input romCode ramCode sizes sum
  refine ⟨?_, fun s hs => ?_, fun s => ⟨length_toBytes _ _, fun k hk => getElem_toBytes _ _ k hk⟩⟩
  · exact (exists_construct_iff input).trans (validated_iff input)
  · obtain ⟨k, size, h, rfl⟩ := construct_ok_iff.1 hs
    have hbanks : 2 ^ (k.val + 1) = 2 * 2 ^ romCode := by rw [pow_succ', ← h.romCode]
    exact ⟨inv_atReset _ h.arraysOk, (nRom_eq _).trans hbanks, ramSize_mem h.ramCode,
      ⟨_, rfl, supplies_launchOf input k size⟩, fun bytes => h.saveImage⟩

end Sys2Proof.Proofs
end

section
/-! The decoder and the encoder. The fields of an opcode read back, and an operand's code and its reading are each other's inverse
(30_encoding.md R101 to R106); so the families laid out by their fields decode as they are encoded. From these follow both
directions of the round trip, and the rows an extended opcode names. -/

namespace Sys2Proof.Proofs

open Sys2Proof.Machine Sys2Proof.Safety Sys2Proof.Laws

/-! ## Fields and codes (30_encoding.md R101 to R106) -/

section
variable (x : BitVec 2) (y z : BitVec 3)

theorem fieldX_append : fieldX (x ++ y ++ z) = x.toFin := by
  rw [BitVec.append_assoc]
  exact congrArg BitVec.toFin (BitVec.extractLsb'_append_eq_left (a := x) (b := y ++ z))

theorem fieldY_append : fieldY (x ++ y ++ z) = y.toFin :=
  congrArg BitVec.toFin
    ((BitVec.extractLsb'_append_eq_of_le (Nat.le_refl 3)).trans (BitVec.extractLsb'_append_eq_right (a := x)))

theorem fieldZ_append : fieldZ (x ++ y ++ z) = z.toFin :=
  congrArg BitVec.toFin BitVec.extractLsb'_append_eq_right

end

/-- An opcode is its three fields. -/
theorem append_fields (op : Byte) :
    BitVec.ofNat 2 (fieldX op).val ++ BitVec.ofNat 3 (fieldY op).val ++ BitVec.ofNat 3 (fieldZ op).val = op := by
  simp only [fieldX, fieldY, fieldZ, BitVec.val_toFin, BitVec.ofNat_toNat, BitVec.setWidth_eq]
  rw [BitVec.extractLsb'_append_extractLsb'_eq_extractLsb' (rfl : 6 = 3 + 3),
    BitVec.extractLsb'_append_extractLsb'_eq_extractLsb' (rfl : 3 = 0 + 3)]
  exact BitVec.extractLsb'_eq_self

theorem toFin_ofNat (k : Fin 8) : (BitVec.ofNat 3 k.val).toFin = k := by
  fin_cases k <;> rfl

theorem ofCode_operandCode (o : Operand8) : Operand8.ofCode (operandCode o).toFin = o := by
  rcases o with (r | _)
  · cases r <;> rfl
  · rfl

theorem ofCode_aluCode (op : AluOp) : AluOp.ofCode (aluCode op).toFin = op := by
  cases op <;> rfl

theorem ofCode_shiftCode (op : ShiftOp) : ShiftOp.ofCode (shiftCode op).toFin = op := by
  cases op <;> rfl

theorem operandCode_ofCode (k : Fin 8) : operandCode (Operand8.ofCode k) = BitVec.ofNat 3 k.val := by
  fin_cases k <;> rfl

theorem aluCode_ofCode (k : Fin 8) : aluCode (AluOp.ofCode k) = BitVec.ofNat 3 k.val := by
  fin_cases k <;> rfl

theorem shiftCode_ofCode (k : Fin 8) : shiftCode (ShiftOp.ofCode k) = BitVec.ofNat 3 k.val := by
  fin_cases k <;> rfl

/-! ## The families laid out by their fields (R110, R111) -/

theorem encode_ldBlock (dst src : Operand8) :
    encode (Instr.ldBlock dst src) = [0b01#2 ++ operandCode dst ++ operandCode src] := by
  rcases dst with (r | _) <;> rcases src with (r' | _)
  · cases r <;> cases r' <;> rfl
  · cases r <;> rfl
  · cases r' <;> rfl
  · rfl

theorem encode_alu (op : AluOp) (o : Operand8) : encode (Instr.alu op o) = [0b10#2 ++ aluCode op ++ operandCode o] := by
  rcases o with (r | _)
  · cases op <;> cases r <;> rfl
  · cases op <;> rfl

theorem encode_cbShift (op : ShiftOp) (o : Operand8) :
    encode (Instr.cbShift op o) = [0xCB#8, 0b00#2 ++ shiftCode op ++ operandCode o] := by
  rcases o with (r | _)
  · cases op <;> cases r <;> rfl
  · cases op <;> rfl

theorem encode_cbBit (k : Fin 8) (o : Operand8) :
    encode (Instr.cbBit k o) = [0xCB#8, 0b01#2 ++ BitVec.ofNat 3 k.val ++ operandCode o] := by
  rcases o with (r | _)
  · fin_cases k <;> cases r <;> rfl
  · fin_cases k <;> rfl

theorem encode_cbRes (k : Fin 8) (o : Operand8) :
    encode (Instr.cbRes k o) = [0xCB#8, 0b10#2 ++ BitVec.ofNat 3 k.val ++ operandCode o] := by
  rcases o with (r | _)
  · fin_cases k <;> cases r <;> rfl
  · fin_cases k <;> rfl

theorem encode_cbSet (k : Fin 8) (o : Operand8) :
    encode (Instr.cbSet k o) = [0xCB#8, 0b11#2 ++ BitVec.ofNat 3 k.val ++ operandCode o] := by
  rcases o with (r | _)
  · fin_cases k <;> cases r <;> rfl
  · fin_cases k <;> rfl

/-! ## Decoding what was encoded -/

theorem decodeOpcode_ldBlock (dst src : Operand8) :
    decodeOpcode (0b01#2 ++ operandCode dst ++ operandCode src) = .f1 (Instr.ldBlock dst src) := by
  unfold decodeOpcode
  rw [fieldX_append, fieldY_append, fieldZ_append, ofCode_operandCode, ofCode_operandCode]
  rfl

theorem decodeOpcode_alu (op : AluOp) (o : Operand8) :
    decodeOpcode (0b10#2 ++ aluCode op ++ operandCode o) = .f1 (Instr.alu op o) := by
  unfold decodeOpcode
  rw [fieldX_append, fieldY_append, fieldZ_append, ofCode_aluCode, ofCode_operandCode]
  rfl

theorem decodeExt_cbShift (op : ShiftOp) (o : Operand8) :
    decodeExt (0b00#2 ++ shiftCode op ++ operandCode o) = Instr.cbShift op o := by
  unfold decodeExt
  rw [fieldX_append, fieldY_append, fieldZ_append, ofCode_shiftCode, ofCode_operandCode]
  rfl

theorem decodeExt_cbBit (k : Fin 8) (o : Operand8) :
    decodeExt (0b01#2 ++ BitVec.ofNat 3 k.val ++ operandCode o) = Instr.cbBit k o := by
  unfold decodeExt
  rw [fieldX_append, fieldY_append, fieldZ_append, ofCode_operandCode, toFin_ofNat]
  rfl

theorem decodeExt_cbRes (k : Fin 8) (o : Operand8) :
    decodeExt (0b10#2 ++ BitVec.ofNat 3 k.val ++ operandCode o) = Instr.cbRes k o := by
  unfold decodeExt
  rw [fieldX_append, fieldY_append, fieldZ_append, ofCode_operandCode, toFin_ofNat]
  rfl

theorem decodeExt_cbSet (k : Fin 8) (o : Operand8) :
    decodeExt (0b11#2 ++ BitVec.ofNat 3 k.val ++ operandCode o) = Instr.cbSet k o := by
  unfold decodeExt
  rw [fieldX_append, fieldY_append, fieldZ_append, ofCode_operandCode, toFin_ofNat]
  rfl

section
variable {i : Instr}

/-- A one-byte row round-trips when its opcode asks for nothing more. -/
theorem roundTrip_of_f1 {op : Byte} (he : encode i = [op]) (hd : decodeOpcode op = .f1 i) : RoundTrip.Statement i := by
  intro _ rest
  simp [he, decode, hd]

/-- An extended row round-trips when its second byte names it. -/
theorem roundTrip_of_ext {op2 : Byte} (he : encode i = [0xCB#8, op2]) (hd : decodeExt op2 = i) : RoundTrip.Statement i := by
  intro _ rest
  rw [he]
  exact congrArg Except.ok hd

end

theorem roundTrip_ldBlock (dst src : Operand8) : RoundTrip.Statement (Instr.ldBlock dst src) :=
  roundTrip_of_f1 (encode_ldBlock dst src) (decodeOpcode_ldBlock dst src)

/-- Every well-formed instruction is decoded from its encoding: the families laid out by their fields by the codes' inverses, the
small families and the single rows by their opcodes. -/
theorem roundTrip (i : Instr) : RoundTrip.Statement i := by
  cases row i with
  | ldReg dst src => exact roundTrip_ldBlock (.reg dst) (.reg src)
  | ldRegAtHl dst => exact roundTrip_ldBlock (.reg dst) .atHl
  | ldAtHlReg src => exact roundTrip_ldBlock .atHl (.reg src)
  | halt => exact roundTrip_ldBlock .atHl .atHl
  | alu op o => exact roundTrip_of_f1 (encode_alu op o) (decodeOpcode_alu op o)
  | cbShift op o => exact roundTrip_of_ext (encode_cbShift op o) (decodeExt_cbShift op o)
  | cbBit k o => exact roundTrip_of_ext (encode_cbBit k o) (decodeExt_cbBit k o)
  | cbRes k o => exact roundTrip_of_ext (encode_cbRes k o) (decodeExt_cbRes k o)
  | cbSet k o => exact roundTrip_of_ext (encode_cbSet k o) (decodeExt_cbSet k o)
  | ldImm dst n => cases dst <;> exact fun _ _ => rfl
  | aluImm op n => cases op <;> exact fun _ _ => rfl
  | inc8 o | dec8 o =>
    rcases o with (r | _)
    · cases r <;> exact fun _ _ => rfl
    · exact fun _ _ => rfl
  | incPair rr | decPair rr | addHl rr | push rr | pop rr => cases rr <;> exact fun _ _ => rfl
  | jrCond cc e => cases cc <;> exact fun _ _ => rfl
  | retCond cc => cases cc <;> exact fun _ _ => rfl
  | rst y => fin_cases y <;> exact fun _ _ => rfl
  | ldPair rr nn =>
    cases rr with
    | bc => exact RoundTrip.ldBcNn nn
    | de => exact RoundTrip.ldDeNn nn
    | hl => exact RoundTrip.ldHlNn nn
    | sp => exact RoundTrip.ldSpNn nn
  | jpCond cc nn =>
    cases cc with
    | nz => exact RoundTrip.jpNzNn nn
    | z => exact RoundTrip.jpZNn nn
    | nc => exact RoundTrip.jpNcNn nn
    | c => exact RoundTrip.jpCyNn nn
  | callCond cc nn =>
    cases cc with
    | nz => exact RoundTrip.callNzNn nn
    | z => exact RoundTrip.callZNn nn
    | nc => exact RoundTrip.callNcNn nn
    | c => exact RoundTrip.callCyNn nn
  | ldAtNnSp nn => exact RoundTrip.ldAtNnSp nn
  | jpNn nn => exact RoundTrip.jpNn nn
  | callNn nn => exact RoundTrip.callNn nn
  | ldAtNnA nn => exact RoundTrip.ldAtNnA nn
  | ldAAtNn nn => exact RoundTrip.ldAAtNn nn
  | prefixCb op2 => exact RoundTrip.prefixCb op2
  | jrDisp n | ldAtHlN n | ldhAtNA n | ldhAAtN n | addSpDisp n | ldHlSpDisp n => exact fun _ _ => rfl
  | nop | ldAtBcA | rlca | ldAAtBc | rrca | stop | ldAtDeA | rla | ldAAtDe | rra | ldAtHlIncA | daa | ldAAtHlInc | cplA
  | ldAtHlDecA | scf | ldAAtHlDec | ccf | ret | reti | ldAtCA | jpHl | ldAAtC | di | ldSpHl | ei
  | illegalD3 | illegalDB | illegalDD | illegalE3 | illegalE4 | illegalEB | illegalEC | illegalED
  | illegalF4 | illegalFC | illegalFD => exact fun _ _ => rfl

/-- Settles O32: the round trip of each row. -/
theorem decodeReadsBackEncode : Obligations.DecodeReadsBackEncode := fun i rest h => roundTrip i h rest

/-! ## Encoding what was decoded -/

/-- PREFIX_CB alone is ill formed, and it has no cycles column. -/
theorem FlatRow.wellFormed {i : Instr} {col : FlagColumn} {len access extra : Nat} (h : FlatRow i col len access extra) :
    i.wellFormed = true := by
  unfold Instr.wellFormed
  split
  · cases h.cycles
  · rfl

/-- The operand bytes under a format. -/
def operandBytes (n : Byte) (nn : Word) (f : Format) : List Byte :=
  match f with
  | .f1 _ => []
  | .f2 _ => [n]
  | .f3 _ => [loByte nn, hiByte nn]

/-- The instruction a format gives is well formed and its encoding begins with the opcode and the operand bytes. -/
structure EncodesBack (op n : Byte) (nn : Word) (f : Format) : Prop where
  wellFormed : (instrOf n nn f).wellFormed = true
  bytes : (encode (instrOf n nn f)).take f.fetched = op :: operandBytes n nn f

theorem encode_decodeExt (op2 : Byte) : encode (decodeExt op2) = [0xCB#8, op2] := by
  conv_rhs => rw [← append_fields op2]
  unfold decodeExt
  split <;> rename_i hx <;> rw [hx]
  · rw [encode_cbShift, shiftCode_ofCode, operandCode_ofCode]
    rfl
  · rw [encode_cbBit, operandCode_ofCode]
    rfl
  · rw [encode_cbRes, operandCode_ofCode]
    rfl
  · rw [encode_cbSet, operandCode_ofCode]
    rfl

theorem wellFormed_decodeExt (op2 : Byte) : (decodeExt op2).wellFormed = true := by
  unfold decodeExt
  split
  · exact (row_cbShift _ _).wellFormed
  · exact (row_cbBit _ _).wellFormed
  · exact (row_cbRes _ _).wellFormed
  · exact (row_cbSet _ _).wellFormed

theorem wellFormed_ldBlock (dst src : Operand8) : (Instr.ldBlock dst src).wellFormed = true := by
  rcases dst with (r | _) <;> rcases src with (r' | _)
  · exact (row_ldReg r r').wellFormed
  · exact (row_ldRegAtHl r).wellFormed
  · exact (row_ldAtHlReg r').wellFormed
  · rfl

section
variable (n : Byte) (nn : Word)

theorem encodesBack_decodeX0 (y z : Fin 8) :
    EncodesBack (0b00#2 ++ BitVec.ofNat 3 y.val ++ BitVec.ofNat 3 z.val) n nn (decodeX0 y z) := by
  fin_cases z <;> fin_cases y <;> exact ⟨rfl, rfl⟩

theorem encodesBack_decodeX3 (y z : Fin 8) :
    EncodesBack (0b11#2 ++ BitVec.ofNat 3 y.val ++ BitVec.ofNat 3 z.val) n nn (decodeX3 y z) := by
  match z, y with
  | 3, 1 => exact ⟨wellFormed_decodeExt n, congrArg (List.take 2) (encode_decodeExt n)⟩
  | 3, 0 | 3, 2 | 3, 3 | 3, 4 | 3, 5 | 3, 6 | 3, 7 => exact ⟨rfl, rfl⟩
  | 0, y | 1, y | 2, y | 4, y | 5, y | 6, y | 7, y => fin_cases y <;> exact ⟨rfl, rfl⟩

theorem encodesBack_decodeOpcode (op : Byte) : EncodesBack op n nn (decodeOpcode op) := by
  have hop := append_fields op
  unfold decodeOpcode
  split <;> rename_i hx <;> rw [hx] at hop
  · exact (congrArg (EncodesBack · n nn _) hop).mp (encodesBack_decodeX0 n nn _ _)
  · refine ⟨wellFormed_ldBlock _ _, ?_⟩
    rw [instrOf, encode_ldBlock, operandCode_ofCode, operandCode_ofCode]
    exact congrArg (· :: []) hop
  · refine ⟨(row_alu _ _).wellFormed, ?_⟩
    rw [instrOf, encode_alu, aluCode_ofCode, operandCode_ofCode]
    exact congrArg (· :: []) hop
  · exact (congrArg (EncodesBack · n nn _) hop).mp (encodesBack_decodeX3 n nn _ _)

end

/-- Bytes that decode begin with an opcode and the operand bytes its format asks for. -/
theorem decode_eq_ok {bytes : List Byte} {i : Instr} (h : decode bytes = .ok i) :
    ∃ op n nn rest, i = instrOf n nn (decodeOpcode op) ∧ bytes = op :: operandBytes n nn (decodeOpcode op) ++ rest := by
  cases bytes with
  | nil => cases h
  | cons op tail =>
    refine ⟨op, ?_⟩
    simp only [decode] at h
    cases hf : decodeOpcode op with
    | f1 i' =>
      rw [hf] at h
      cases h
      exact ⟨0, 0, tail, rfl, rfl⟩
    | f2 make =>
      rw [hf] at h
      cases tail with
      | nil => cases h
      | cons n tail =>
        cases h
        exact ⟨n, 0, tail, rfl, rfl⟩
    | f3 make =>
      rw [hf] at h
      match tail with
      | [] | [_] => cases h
      | lo :: hi :: tail =>
        cases h
        exact ⟨0, wordOf hi lo, tail, rfl, by simp [operandBytes]⟩

theorem length_operandBytes (op n : Byte) (nn : Word) (f : Format) : (op :: operandBytes n nn f).length = f.fetched := by
  cases f <;> rfl

/-- Settles O33: what an opcode's format gives encodes to the opcode and the operand bytes, which are the bytes read. -/
theorem encodeGivesBackTheBytes : Obligations.EncodeGivesBackTheBytes := by
  intro bytes i h
  obtain ⟨op, n, nn, rest, rfl, rfl⟩ := decode_eq_ok h
  have hback := encodesBack_decodeOpcode n nn op
  have hlength := length_operandBytes op n nn (decodeOpcode op)
  rw [fetchedLength_decodeOpcode]
  refine ⟨hback.wellFormed, ?_, ?_⟩
  · rw [List.length_append, hlength]
    exact Nat.le_add_right _ _
  · rw [hback.bytes, ← hlength, List.take_left]

end Sys2Proof.Proofs
end

section
/-! Frames of the updates that the arithmetic makes, and from them what a read-modify-write does as a whole: the statements'
`Rewrites` from the shape's `exec`. -/

namespace Sys2Proof.Proofs

open Sys2Proof.Machine Sys2Proof.Safety Sys2Proof.Laws Sys2Proof.Claims

/-! ## Frames of the updates -/

theorem kept_setFlags (f : Flags) (s : State) : Kept [.flags] 0 s (s.setFlags f) := by
  refine ⟨fun p hp => ?_, rfl, rfl, rfl⟩
  cases p with
  | flags => simp at hp
  | reg r => exact reg_withF r f s.cpu
  | _ => rfl

theorem kept_setPair (rr : Pair) (v : Word) (s : State) : Kept (pairParts rr) 0 s (s.withCpu (s.cpu.setPair rr v)) := by
  refine ⟨fun p hp => ?_, rfl, rfl, rfl⟩
  cases p with
  | reg r => exact reg_setPair hp v s.cpu
  | sp =>
    have hrr : rr ≠ .sp := by rintro rfl; simp [pairParts] at hp
    simp [Part.Same, hrr]
  | _ => simp [Part.Same]

theorem kept_setAF (p : Byte × Flags) (s : State) : Kept [.reg .a, .flags] 0 s (s.withCpu (s.cpu.setAF p)) :=
  kept_trans (kept_setReg .a p.1 s) (kept_setFlags p.2 _)

/-- HL and the flags written together. -/
theorem kept_setHlFlags (v : Word) (f : Flags) (s : State) :
    Kept [.reg .h, .reg .l, .flags] 0 s (s.withCpu { s.cpu.setHl v with f := f }) :=
  kept_trans (kept_setPair .hl v s) (kept_setFlags f _)

/-- A write of the CPU, then the cycles that `Hardware` adds. -/
theorem kept_withCpu_tickHw {changed : List Part} {c : Cpu} {s : State} (n : Nat)
    (h : Kept changed 0 s (s.withCpu c)) :
    Kept changed (hardwareOnly n s) s ((s.withCpu c).tickHw n) := by
  simpa using kept_trans h (kept_tickHw n (s.withCpu c))

/-- One read and one write of a byte. -/
theorem kept_rewritten (b : Bus) (s : State) : Kept [.bus] 8 s { s with bus := b, tally := s.tally + 8 } :=
  kept_trans (kept_trans (kept_tick 4 s) (kept_withBus b _)) (kept_tick 4 _)

/-! ## Read-modify-writes -/

section
variable {i : Instr} {o : Operand8} {value : Byte → Byte} {flags : Byte → Flags} {s : State}

theorem rewrites_of_modifyOperand (hi : exec i s = modifyOperand o value flags s) : Rewrites i o value (some flags) s := by
  cases o with
  | reg r =>
    exact ⟨_, hi.trans (modifyOperand_reg r value flags s), (reg_withF r _ _).trans (reg_setReg_same r _ s.cpu),
      by rintro f ⟨⟩; rfl, kept_trans (kept_setReg r _ s) (kept_setFlags _ _)⟩
  | atHl =>
    refine ⟨fun v b hv hb => ?_, fun kind hk => hi.trans (modifyOperand_readFault hk),
      fun v kind hv hk => hi.trans (modifyOperand_writeFault hv hk)⟩
    exact ⟨_, hi.trans (modifyOperand_atHl_next.2 ⟨v, b, hv, hb, rfl⟩), rfl, by rintro f ⟨⟩; rfl,
      kept_trans (kept_rewritten b s) (kept_setFlags (flags v) _)⟩

theorem rewrites_of_rewriteOperand (hi : exec i s = rewriteOperand o value s) : Rewrites i o value none s := by
  cases o with
  | reg r => exact ⟨_, hi.trans (rewriteOperand_reg r value s), by simp, nofun, kept_setReg r _ s⟩
  | atHl =>
    refine ⟨fun v b hv hb => ?_, fun kind hk => hi.trans (rewriteOperand_readFault hk),
      fun v kind hv hk => hi.trans (rewriteOperand_writeFault hv hk)⟩
    exact ⟨_, hi.trans (rewriteOperand_atHl_next.2 ⟨v, b, hv, hb, rfl⟩), rfl, nofun, kept_rewritten b s⟩

end

end Sys2Proof.Proofs
end

section
/-! The loads between registers, the arithmetic, the shifts and the single bits: each family's encoding by its fields, and its shape's
result as the statement gives it. -/

namespace Sys2Proof.Proofs

open Sys2Proof.Machine Sys2Proof.Safety Sys2Proof.Laws Sys2Proof.Claims

/-! ## Loads of registers and pairs (40_load8.md R120, R121, 41_load16.md R140, R142) -/

theorem encode_ldImm (dst : Reg8) (n : Byte) : encode (Instr.ldImm dst n) = [0b00#2 ++ regCode dst ++ 0b110#3, n] := by
  cases dst <;> rfl

theorem encode_ldPair (rr : Pair) (nn : Word) :
    encode (Instr.ldPair rr nn) = [0b00#2 ++ pairCode rr ++ 0b0001#4, loByte nn, hiByte nn] := by
  cases rr <;> rfl

/-- Settles O2: both forms write the one register. -/
theorem registerLoads : Obligations.RegisterLoads := by
  intro dst r n s
  exact ⟨encode_ldBlock (.reg dst) (.reg r), ⟨_, exec_ldReg dst r s, reg_setReg_same dst _ s.cpu, kept_setReg dst _ s⟩,
    encode_ldImm dst n, ⟨_, exec_ldImm dst n s, reg_setReg_same dst n s.cpu, kept_setReg dst n s⟩⟩

/-- Settles O6: both forms write the one pair. -/
theorem pairLoads : Obligations.PairLoads := by
  intro rr nn s
  exact ⟨encode_ldPair rr nn, ⟨_, exec_ldPair rr nn s, pair_setPair rr nn s.cpu, kept_setPair rr nn s⟩,
    rfl, ⟨_, exec_ldSpHl s, by simp, kept_withCpu_tickHw 4 (kept_setPair .sp s.cpu.hl s)⟩⟩

/-! ## Eight-bit arithmetic and logic (42_alu8.md R150 to R158) -/

theorem isZero_iff (v : Byte) : isZero v = true ↔ v.toNat = 0 := by
  rw [isZero, beq_iff_eq, ← BitVec.toNat_inj]
  rfl

theorem add8_result (a b : Byte) (c : Bool) :
    (add8 a b c).1.toNat = (a.toNat + b.toNat + c.toNat) % 256 ∧
      FlagsAre (add8 a b c).2 ((add8 a b c).1.toNat = 0) False (0xF < a.toNat % 16 + b.toNat % 16 + c.toNat)
        (0xFF < a.toNat + b.toNat + c.toNat) :=
  ⟨BitVec.toNat_ofNat _ _, isZero_iff _, by simp [add8], decide_eq_true_iff, decide_eq_true_iff⟩

theorem sub8_result (a b : Byte) (c : Bool) :
    ((sub8 a b c).1.toNat : Int) = ((a.toNat : Int) - b.toNat - c.toNat) % 256 ∧
      FlagsAre (sub8 a b c).2 ((sub8 a b c).1.toNat = 0) True (a.toNat % 16 < b.toNat % 16 + c.toNat)
        (a.toNat < b.toNat + c.toNat) := by
  refine ⟨?_, isZero_iff _, by simp [sub8], decide_eq_true_iff, decide_eq_true_iff⟩
  have hc : ((BitVec.ofBool c).setWidth 8).toNat = c.toNat := by cases c <;> rfl
  simp only [sub8, BitVec.toNat_sub, hc]
  have ha := a.isLt
  have hb := b.isLt
  have hc' := c.toNat_le
  omega

theorem logicFlags_result {h : Bool} {p : Prop} (r : Byte) (hp : h = true ↔ p) :
    FlagsAre (logicFlags r h) (r.toNat = 0) False p False :=
  ⟨isZero_iff r, by simp [logicFlags], hp, by simp [logicFlags]⟩

theorem alu8_result (op : AluOp) (a b : Byte) (f : Flags) : AluResult op a b f (alu8 op a b f).1 (alu8 op a b f).2 := by
  cases op with
  | add => exact add8_result a b false
  | adc => exact add8_result a b f.c
  | sub =>
    obtain ⟨hdiff, hflags⟩ := sub8_result a b false
    exact ⟨hdiff.trans (by simp), hflags⟩
  | sbc => exact sub8_result a b f.c
  | and => exact ⟨rfl, logicFlags_result (a &&& b) (by simp)⟩
  | xor => exact ⟨rfl, logicFlags_result (a ^^^ b) (by simp)⟩
  | or => exact ⟨rfl, logicFlags_result (a ||| b) (by simp)⟩
  | cp =>
    obtain ⟨hdiff, hz, hn, hh, hc⟩ := sub8_result a b false
    have heq : (sub8 a b false).1.toNat = 0 ↔ a = b := by bv_omega
    exact ⟨rfl, hz.trans heq, hn, hh, hc⟩

theorem aluOperand_atHl (op : AluOp) (s : State) :
    aluOperand op .atHl s =
      readThen s.cpu.hl s fun v s => .next (s.withCpu (s.cpu.setAF (alu8 op s.cpu.a v s.cpu.f))) := rfl

theorem encode_aluImm (op : AluOp) (n : Byte) : encode (Instr.aluImm op n) = [0b11#2 ++ aluCode op ++ 0b110#3, n] := by
  cases op <;> rfl

/-- Settles O10: the three forms differ in the source alone. -/
theorem arithmeticAndLogic : Obligations.ArithmeticAndLogic := by
  intro op r n s
  have hread := (exec_alu op .atHl s).trans (aluOperand_atHl op s)
  refine ⟨⟨encode_alu op (.reg r), ?_⟩, ⟨encode_alu op .atHl, fun v hv => ?_, fun kind hk => ?_⟩, encode_aluImm op n, ?_⟩
  · exact ⟨_, exec_alu op (.reg r) s, alu8_result op _ _ _, kept_setAF _ s⟩
  · exact ⟨_, hread.trans (readThen_ok hv _), alu8_result op _ v _,
      kept_trans (kept_tick 4 s) (kept_setAF _ (s.tick 4))⟩
  · exact hread.trans (readThen_error hk _)
  · exact ⟨_, exec_aluImm op n s, alu8_result op _ n _, kept_setAF _ s⟩

/-! ## Sixteen-bit arithmetic (43_alu16.md R170 to R172) -/

theorem encode_incPair (rr : Pair) : encode (Instr.incPair rr) = [0b00#2 ++ pairCode rr ++ 0b0011#4] := by
  cases rr <;> rfl

theorem encode_decPair (rr : Pair) : encode (Instr.decPair rr) = [0b00#2 ++ pairCode rr ++ 0b1011#4] := by
  cases rr <;> rfl

theorem encode_addHl (rr : Pair) : encode (Instr.addHl rr) = [0b00#2 ++ pairCode rr ++ 0b1001#4] := by
  cases rr <;> rfl

/-- INC rr and DEC rr. -/
theorem ends_of_addToPair {i : Instr} {rr : Pair} {delta : Word} {n : Nat} {s : State} (hi : exec i s = addToPair rr delta s)
    (hn : delta.toNat = n) :
    Ends i (pairParts rr) (hardwareOnly 4 s)
      (fun t => (t.cpu.pair rr).toNat = ((s.cpu.pair rr).toNat + n) % 65536) s :=
  ⟨_, hi, by simp [hn], kept_withCpu_tickHw 4 (kept_setPair rr _ s)⟩

theorem addHlFlags_result (a b : Word) (f : Flags) :
    FlagsAre (addHlFlags a b f) (f.z = true) False (0xFFF < a.toNat % 4096 + b.toNat % 4096) (0xFFFF < a.toNat + b.toNat) :=
  ⟨Iff.rfl, by simp [addHlFlags], decide_eq_true_iff, decide_eq_true_iff⟩

/-- Settles O15: DEC rr adds 0xFFFF, which is the statement's 65535. -/
theorem pairArithmetic : Obligations.PairArithmetic := by
  intro rr s
  refine ⟨⟨encode_incPair rr, ends_of_addToPair (exec_incPair rr s) rfl⟩,
    ⟨encode_decPair rr, ends_of_addToPair (exec_decPair rr s) rfl⟩, encode_addHl rr, _, exec_addHl rr s, ?_, ?_⟩
  · simp only [tickHw_cpu]
    exact ⟨(congrArg BitVec.toNat (hl_setHl _ s.cpu)).trans (BitVec.toNat_add _ _), addHlFlags_result _ _ _⟩
  · exact kept_withCpu_tickHw 4 (kept_setHlFlags _ _ s)

/-! ## Rotates and shifts (44_rotate_shift.md R184 to R192) -/

theorem toNat_append_eq_add {m n : Nat} (x : BitVec m) (y : BitVec n) : (x ++ y).toNat = x.toNat * 2 ^ n + y.toNat := by
  rw [BitVec.toNat_append, ← Nat.shiftLeft_add_eq_or_of_lt y.isLt, Nat.shiftLeft_eq]

theorem toNat_shiftValue (op : ShiftOp) (v : Byte) (c : Bool) :
    (shiftValue op v c).toNat = shiftNumber op v.toNat c.toNat := by
  have hv := v.isLt
  cases op <;>
    simp only [shiftValue, shiftNumber, toNat_append_eq_add, BitVec.extractLsb'_toNat, Nat.shiftRight_eq_div_pow,
      BitVec.toNat_ofBool, BitVec.toNat_ofNat] <;> omega

theorem shiftValue_eq_shifted (op : ShiftOp) (c : Bool) (v : Byte) : shiftValue op v c = shifted op c v := by
  rw [shifted, ← toNat_shiftValue, BitVec.ofNat_toNat, BitVec.setWidth_eq]

theorem shiftFlags_eq_shiftedFlags (op : ShiftOp) (c : Bool) (v : Byte) : shiftFlags op v c = shiftedFlags op c v := by
  have hcarry : shiftCarry op v = shiftCarryOut op v := by cases op <;> rfl
  rw [shiftFlags, shiftedFlags, shiftValue_eq_shifted, hcarry]
  rfl

/-- Settles O18: the shape is a read-modify-write whose value and flags are the statement's. -/
theorem extendedShifts : Obligations.ExtendedShifts := by
  intro op o s
  refine ⟨encode_cbShift op o, rewrites_of_modifyOperand ((exec_cbShift op o s).trans ?_)⟩
  simp only [shiftOperand, shiftValue_eq_shifted, shiftFlags_eq_shiftedFlags]

/-! ## Single bits (45_bit.md R195 to R197) -/

theorem testBit_atHl (k : Fin 8) (s : State) :
    testBit k .atHl s = readThen s.cpu.hl s fun v s => .next (s.setFlags (bitFlags k v s.cpu.f)) := rfl

theorem getLsbD_resBit (k : Fin 8) (v : Byte) {j : Nat} (hj : j < 8) :
    (resBit k v).getLsbD j = if j = k.val then false else v.getLsbD j := by
  rw [resBit, ← BitVec.twoPow_eq, BitVec.getLsbD_and, BitVec.getLsbD_not, BitVec.getLsbD_twoPow]
  by_cases h : j = k.val <;> simp [h, hj, eq_comm (a := k.val)]

theorem getLsbD_setBit (k : Fin 8) (v : Byte) (j : Nat) :
    (setBit k v).getLsbD j = if j = k.val then true else v.getLsbD j := by
  rw [setBit, ← BitVec.twoPow_eq, BitVec.getLsbD_or, BitVec.getLsbD_twoPow]
  by_cases h : j = k.val <;> simp [h, eq_comm (a := k.val)]

/-- Settles O19: BIT is a read that ends in a write of the flags, RES and SET are read-modify-writes without flags. -/
theorem singleBitInstructions : Obligations.SingleBitInstructions := by
  intro k o s tested
  refine ⟨⟨encode_cbBit k o, ?_⟩, fun set => ?_⟩
  · cases o with
    | reg r => exact ⟨_, exec_cbBit k (.reg r) s, rfl, kept_setFlags _ s⟩
    | atHl =>
      have hread := (exec_cbBit k .atHl s).trans (testBit_atHl k s)
      refine ⟨fun v hv => ⟨_, hread.trans (readThen_ok hv _), rfl, ?_⟩,
        fun kind hk => hread.trans (readThen_error hk _)⟩
      exact kept_trans (kept_tick 4 s) (kept_setFlags _ (s.tick 4))
  · cases set with
    | false =>
      exact ⟨resBit k, fun v j => getLsbD_resBit k v, encode_cbRes k o, rewrites_of_rewriteOperand (exec_cbRes k o s)⟩
    | true =>
      exact ⟨setBit k, fun v j _ => getLsbD_setBit k v j, encode_cbSet k o, rewrites_of_rewriteOperand (exec_cbSet k o s)⟩

end Sys2Proof.Proofs
end

section
/-! The jumps, the row PREFIX_CB, and the rows that stop. -/

namespace Sys2Proof.Proofs

open Sys2Proof.Machine Sys2Proof.Safety Sys2Proof.Laws Sys2Proof.Claims

/-! ## Jumps (46_control.md R200 to R205) -/

/-- The target of a relative jump over the integers (R204). -/
theorem relativeTarget_eq_ofInt (e : Byte) (s : State) :
    relativeTarget e s = BitVec.ofInt 16 (s.cpu.pc.toNat + e.toInt) := by
  rw [BitVec.ofInt_add, BitVec.ofInt_natCast, BitVec.ofNat_toNat, BitVec.setWidth_eq]
  rfl

theorem encode_jpCond (cc : Cond) (nn : Word) :
    encode (Instr.jpCond cc nn) = [0b110#3 ++ condCode cc ++ 0b010#3, loByte nn, hiByte nn] := by
  cases cc <;> rfl

theorem encode_jrCond (cc : Cond) (e : Byte) : encode (Instr.jrCond cc e) = [0b001#3 ++ condCode cc ++ 0b000#3, e] := by
  cases cc <;> rfl

section
variable {i : Instr} {target : Word} {s : State}

theorem ends_of_jumpTo (hi : exec i s = jumpTo target s) :
    Ends i [.pc] (hardwareOnly 4 s) (fun t => t.cpu.pc = target) s :=
  ⟨_, hi, by simp, kept_jump target 4 s⟩

theorem ends_of_jumpIf {cc : Cond} (hi : exec i s = jumpIf cc target s) :
    Ends i [.pc] (if condHolds cc s.cpu.f then hardwareOnly 4 s else 0)
      (fun t => t.cpu.pc = if condHolds cc s.cpu.f then target else s.cpu.pc) s := by
  unfold jumpIf at hi
  split at hi
  case isTrue hc => simpa only [if_pos hc] using ends_of_jumpTo hi
  case isFalse hc =>
    simp only [if_neg hc]
    exact ⟨s, hi, rfl, kept_setPc s.cpu.pc s⟩

end

/-- Settles O21: the conditional forms by whether the condition holds. -/
theorem jumps : Obligations.Jumps := by
  intro cc nn e s target holds
  have hholds : holds = condHolds cc s.cpu.f := by cases cc <;> rfl
  have htarget : target = relativeTarget e s := (relativeTarget_eq_ofInt e s).symm
  rw [hholds, htarget]
  exact ⟨⟨rfl, ends_of_jumpTo (exec_jpNn nn s)⟩, ⟨encode_jpCond cc nn, ends_of_jumpIf (exec_jpCond cc nn s)⟩,
    ⟨rfl, _, exec_jpHl s, rfl, kept_setPc s.cpu.hl s⟩, ⟨rfl, ends_of_jumpTo (exec_jrDisp e s)⟩,
    encode_jrCond cc e, ends_of_jumpIf (exec_jrCond cc e s)⟩

/-! ## The row PREFIX_CB (30_encoding.md R115) -/

/-- Every operand code but 110 is a register's (R102). -/
theorem exists_reg_of_ofCode {k : Fin 8} (hk : k.val ≠ 6) : ∃ r, Operand8.ofCode k = .reg r := by
  match k with
  | 0 | 1 | 2 | 3 | 4 | 5 | 7 => exact ⟨_, rfl⟩
  | 6 => exact absurd rfl hk

theorem exec_decodeExt (op2 : Byte) (s : State) : exec (decodeExt op2) s = execPrefixCb op2 s := by
  unfold decodeExt execPrefixCb
  generalize fieldX op2 = x
  match x with
  | 0 => exact exec_cbShift _ _ s
  | 1 => exact exec_cbBit _ _ s
  | 2 => exact exec_cbRes _ _ s
  | 3 => exact exec_cbSet _ _ s

/-- Settles O20: PREFIX_CB and the extended row have the shape that the same fields name. -/
theorem prefixRowRunsTheExtendedRow : Obligations.PrefixRowRunsTheExtendedRow := by
  intro op2 s
  refine ⟨(exec_decodeExt op2 s).symm, encode_decodeExt op2, fun hreg => ?_⟩
  have hz : (fieldZ op2).val ≠ 6 := by
    rwa [fieldZ, BitVec.val_toFin, BitVec.extractLsb'_toNat, Nat.shiftRight_zero]
  obtain ⟨r, hr⟩ := exists_reg_of_ofCode hz
  rw [exec_prefixCb, execPrefixCb, hr]
  split <;> exact ⟨_, rfl, rfl, rfl⟩

/-! ## Rows that stop, and words of the table -/

/-- Settles O26: each of the 11 bytes decodes to its own row, and all of them run `raiseIllegal`. -/
theorem stopAndIllegalBytesStop : Obligations.StopAndIllegalBytesStop := by
  intro s
  refine ⟨rfl, rfl, exec_stop s, fun op hop => ?_⟩
  fin_cases hop
  · exact ⟨_, rfl, rfl, exec_illegalD3 s⟩
  · exact ⟨_, rfl, rfl, exec_illegalDB s⟩
  · exact ⟨_, rfl, rfl, exec_illegalDD s⟩
  · exact ⟨_, rfl, rfl, exec_illegalE3 s⟩
  · exact ⟨_, rfl, rfl, exec_illegalE4 s⟩
  · exact ⟨_, rfl, rfl, exec_illegalEB s⟩
  · exact ⟨_, rfl, rfl, exec_illegalEC s⟩
  · exact ⟨_, rfl, rfl, exec_illegalED s⟩
  · exact ⟨_, rfl, rfl, exec_illegalF4 s⟩
  · exact ⟨_, rfl, rfl, exec_illegalFC s⟩
  · exact ⟨_, rfl, rfl, exec_illegalFD s⟩

/-- Settles O34: the decoder evaluates on each word. -/
theorem sampleWordsDecode : Obligations.SampleWordsDecode := by
  unfold Obligations.SampleWordsDecode
  and_intros <;> rfl

end Sys2Proof.Proofs
end

section
/-! The loads and stores that step HL: the access at the old HL, then the write of HL. -/

namespace Sys2Proof.Proofs

open Sys2Proof.Machine Sys2Proof.Safety Sys2Proof.Laws Sys2Proof.Claims

/-! ## Stepping loads and stores (40_load8.md R135 to R138) -/

section
variable {i : Instr} {delta : Word} {s : State}

theorem ends_of_loadAStepping {v : Byte} (hi : exec i s = loadAStepping delta s) (hv : s.bus.read s.cpu.hl = .ok v) :
    Ends i [.reg .a, .reg .h, .reg .l] 4 (fun t => t.cpu.a = v ∧ t.cpu.hl = s.cpu.hl + delta) s :=
  ⟨_, hi.trans (loadAStepping_next.2 ⟨v, hv, rfl⟩), ⟨rfl, hl_setHl _ _⟩,
    kept_trans (kept_tick 4 s) (kept_trans (kept_setReg .a v (s.tick 4)) (kept_setPair .hl (s.cpu.hl + delta) _))⟩

theorem ends_of_storeAStepping {b : Bus} (hi : exec i s = storeAStepping delta s)
    (hb : s.bus.write s.cpu.hl s.cpu.a = .ok b) :
    Ends i [.reg .h, .reg .l, .bus] 4 (fun t => t.bus = b ∧ t.cpu.hl = s.cpu.hl + delta) s :=
  ⟨_, hi.trans (storeAStepping_next.2 ⟨b, hb, rfl⟩), ⟨rfl, hl_setHl _ _⟩,
    kept_trans (kept_setPair .hl (s.cpu.hl + delta) s) (kept_trans (kept_withBus b _) (kept_tick 4 _))⟩

theorem exec_steppingLoad (h : (i, delta) ∈ [(Instr.ldAAtHlInc, 1#16), (Instr.ldAAtHlDec, 0xFFFF#16)]) :
    exec i s = loadAStepping delta s := by
  fin_cases h
  · exact exec_ldAAtHlInc s
  · exact exec_ldAAtHlDec s

theorem exec_steppingStore (h : (i, delta) ∈ [(Instr.ldAtHlIncA, 1#16), (Instr.ldAtHlDecA, 0xFFFF#16)]) :
    exec i s = storeAStepping delta s := by
  fin_cases h
  · exact exec_ldAtHlIncA s
  · exact exec_ldAtHlDecA s

end

/-- Settles O5: each form's meaning is `loadAStepping` or `storeAStepping`, whose step of HL is part of what follows the access, so
that a fault of the access leaves HL. -/
theorem steppingLoadsAndStores : Obligations.SteppingLoadsAndStores := by
  refine fun s => ⟨fun i delta h => ?_, fun i delta h => ?_, rfl, rfl, rfl, rfl⟩
  · have hi : exec i s = loadAStepping delta s := exec_steppingLoad h
    exact ⟨fun v hv => ends_of_loadAStepping hi hv, fun kind hk => hi.trans (readThen_error hk _)⟩
  · have hi : exec i s = storeAStepping delta s := exec_steppingStore h
    exact ⟨fun b hb => ends_of_storeAStepping hi hb, fun kind hk => hi.trans (writeThen_error hk _)⟩

end Sys2Proof.Proofs
end

section
/-! The sums of SP and a signed displacement. -/

namespace Sys2Proof.Proofs

open Sys2Proof.Machine Sys2Proof.Safety Sys2Proof.Laws Sys2Proof.Claims

/-! ## ADD SP,e and LD HL,SP+e (43_alu16.md R173 to R175) -/

/-- The sum wraps modulo 2^16, as the integer sum with the signed displacement does. -/
theorem toNat_add_sext16 (sp : Word) (e : Byte) :
    ((sp + sext16 e).toNat : Int) = (sp.toNat + e.toInt) % 65536 := by
  have hext : sext16 e = BitVec.ofInt 16 e.toInt := rfl
  rw [hext, BitVec.toNat_add, BitVec.toNat_ofInt]
  omega

theorem spDispFlags_result (sp : Word) (e : Byte) : DispFlags (spDispFlags sp e) sp e :=
  ⟨by simp [spDispFlags], by simp [spDispFlags], decide_eq_true_iff, decide_eq_true_iff⟩

/-- SP and the flags written together. -/
theorem kept_setSpFlags (v : Word) (f : Flags) (s : State) :
    Kept [.sp, .flags] 0 s (s.withCpu { s.cpu with sp := v, f := f }) :=
  kept_trans (kept_setPair .sp v s) (kept_setFlags f _)

theorem hl_setHl_withF (v : Word) (f : Flags) (c : Cpu) : Cpu.hl { c.setHl v with f := f } = v :=
  hl_setHl v c

/-- LD HL,SP+e and then LD SP,HL against ADD SP,e (law 4 of R175): the pair read back is the sum written to it. -/
theorem loadHlSpDisp_then_loadSpFromHl_agrees_addToSp (e : Byte) (s : State) :
    ∃ t u w, addToSp e s = .next t ∧ loadHlSpDisp e s = .next u ∧ loadSpFromHl u = .next w ∧
      w.cpu.sp = t.cpu.sp ∧ w.cpu.f = t.cpu.f := by
  refine ⟨_, _, _, rfl, rfl, rfl, ?_, ?_⟩
  · simp only [tickHw_cpu, setSp_cpu, withCpu_cpu, hl_setHl_withF]
  · simp only [tickHw_cpu, setSp_cpu, withCpu_cpu]

/-- Settles O16: both forms write the one sum and the one set of flags, and differ in the register and the cycles. -/
theorem stackPointerDisplacements : Obligations.StackPointerDisplacements := by
  intro e s
  refine ⟨⟨rfl, _, exec_addSpDisp e s, ?_, kept_withCpu_tickHw 8 (kept_setSpFlags _ _ s)⟩,
    ⟨rfl, _, exec_ldHlSpDisp e s, ?_, kept_withCpu_tickHw 4 (kept_setHlFlags _ _ s)⟩, ?_⟩
  · simp only [tickHw_cpu]
    exact ⟨toNat_add_sext16 s.cpu.sp e, spDispFlags_result s.cpu.sp e⟩
  · simp only [tickHw_cpu, withCpu_cpu, hl_setHl_withF]
    exact ⟨toNat_add_sext16 s.cpu.sp e, spDispFlags_result s.cpu.sp e⟩
  · exact loadHlSpDisp_then_loadSpFromHl_agrees_addToSp e s

end Sys2Proof.Proofs
end

section
/-! The accumulator's adjustments, the steps of a byte and the laws of the eight-bit arithmetic; DAA over the naturals, and from it
DAA on the sums and differences of two-digit decimals. -/

namespace Sys2Proof.Proofs

open Sys2Proof.Machine Sys2Proof.Safety Sys2Proof.Laws Sys2Proof.Claims

/-! ## INC and DEC of a byte (42_alu8.md R159, R160, R162, R163) -/

theorem encode_inc8 (o : Operand8) : encode (Instr.inc8 o) = [0b00#2 ++ operandCode o ++ 0b100#3] := by
  rcases o with r | _
  · cases r <;> rfl
  · rfl

theorem encode_dec8 (o : Operand8) : encode (Instr.dec8 o) = [0b00#2 ++ operandCode o ++ 0b101#3] := by
  rcases o with r | _
  · cases r <;> rfl
  · rfl

theorem add_one_eq_ofNat (v : Byte) : v + 1#8 = BitVec.ofNat 8 (v.toNat + 1) := by bv_omega

theorem sub_one_eq_ofNat (v : Byte) : v - 1#8 = BitVec.ofNat 8 (v.toNat + 255) := by bv_omega

theorem incFlags_eq (v : Byte) (f : Flags) :
    incFlags v f = { z := v.toNat == 255, n := false, h := v.toNat % 16 == 15, c := f.c } := by
  have hz : isZero (v + 1#8) = (v.toNat == 255) := by
    rw [Bool.eq_iff_iff, isZero_iff, beq_iff_eq]
    bv_omega
  rw [incFlags, hz]

theorem decFlags_eq (v : Byte) (f : Flags) :
    decFlags v f = { z := v.toNat == 1, n := true, h := v.toNat % 16 == 0, c := f.c } := by
  have hz : isZero (v - 1#8) = (v.toNat == 1) := by
    rw [Bool.eq_iff_iff, isZero_iff, beq_iff_eq]
    bv_omega
  rw [decFlags, hz]

/-- Settles O12: both are read-modify-writes whose value and flags are the statement's. -/
theorem incrementAndDecrement : Obligations.IncrementAndDecrement := by
  intro o s
  refine ⟨encode_inc8 o, rewrites_of_modifyOperand ((exec_inc8 o s).trans ?_), encode_dec8 o,
    rewrites_of_modifyOperand ((exec_dec8 o s).trans ?_)⟩
  · simp only [incOperand, add_one_eq_ofNat, incFlags_eq]
  · simp only [decOperand, sub_one_eq_ofNat, decFlags_eq]

/-! ## The laws of the eight-bit arithmetic (42_alu8.md R161) -/

theorem isZero_iff_eq_zero (v : Byte) : isZero v = true ↔ v = 0#8 := beq_iff_eq

theorem alu8_z {op : AluOp} (h : op ≠ .cp) (a b : Byte) (f : Flags) : (alu8 op a b f).2.z = isZero (alu8 op a b f).1 := by
  cases op with
  | cp => exact absurd rfl h
  | _ => rfl

theorem add8_carries (a b : Byte) (c : Bool) :
    ((add8 a b c).2.c = true ↔ 256 ≤ a.toNat + b.toNat + c.toNat) ∧
      ((add8 a b c).2.h = true ↔ 16 ≤ a.toNat % 16 + b.toNat % 16 + c.toNat) := by
  obtain ⟨-, -, -, hh, hc⟩ := add8_result a b c
  exact ⟨hc, hh⟩

theorem sub8_borrows (a b : Byte) (c : Bool) :
    ((sub8 a b c).2.c = true ↔ a.toNat < b.toNat + c.toNat) ∧
      ((sub8 a b c).2.h = true ↔ a.toNat % 16 < b.toNat % 16 + c.toNat) := by
  obtain ⟨-, -, -, hh, hc⟩ := sub8_result a b c
  exact ⟨hc, hh⟩

/-- Settles O11: laws 1 and 2 are the flags of the sum and of the difference, with the carry in that the operation takes. -/
theorem eightBitLaws : Obligations.EightBitLaws := by
  intro a b f carry
  refine ⟨fun op hop => ?_, fun op hop => ?_, rfl, ⟨rfl, rfl, ?_, ?_⟩, toByte_low,
    fun op hop => by rw [alu8_z hop, isZero_iff_eq_zero], ?_, isZero_iff_eq_zero _, isZero_iff_eq_zero _⟩
  · obtain rfl | rfl := hop
    · exact add8_carries a b false
    · exact add8_carries a b f.c
  · obtain rfl | rfl | rfl := hop
    · exact sub8_borrows a b false
    · exact sub8_borrows a b f.c
    · exact sub8_borrows a b false
  · rw [incFlags_eq, beq_iff_eq]
    omega
  · rw [decFlags_eq, beq_iff_eq]
    omega
  · simpa [alu8, sub8] using isZero_iff_eq_zero (a - b)

/-! ## DAA, CPL, SCF and CCF (42_alu8.md R164 to R167) -/

theorem daaCarry_eq (a : Byte) (f : Flags) : daaCarry a f = daaCarryOut a.toNat f := by
  obtain ⟨z, n, h, c⟩ := f
  cases n with
  | false => rfl
  | true => exact Bool.or_false c

/-- The byte's corrections are the rule's numbers modulo 256. -/
theorem toNat_daaValue (a : Byte) (f : Flags) : (daaValue a f).toNat = daaNumber a.toNat f := by
  have ha := a.isLt
  simp only [daaValue, daaNumber, Bool.or_eq_true, decide_eq_true_iff]
  split
  · split <;> split <;> bv_omega
  · split <;> split <;> bv_omega

/-- Settles O13: DAA and CPL write A and the flags, SCF and CCF the flags. -/
theorem accumulatorAdjustments : Obligations.AccumulatorAdjustments := by
  intro s
  refine ⟨⟨rfl, _, exec_daa s, ⟨toNat_daaValue _ _, ?_⟩, kept_setAF _ s⟩,
    ⟨rfl, _, exec_cplA s, ⟨?_, rfl⟩, kept_setAF _ s⟩, ⟨rfl, _, exec_scf s, rfl, kept_setFlags _ s⟩,
    ⟨rfl, _, exec_ccf s, rfl, kept_setFlags _ s⟩⟩
  · rw [← daaCarry_eq]
    rfl
  · exact BitVec.toNat_not

/-! ## DAA on decimals -/

theorem toNat_bcd {n : Nat} (hn : n < 100) : (bcd n).toNat = 16 * (n / 10) + n % 10 := by
  rw [bcd, BitVec.toNat_ofNat]
  omega

theorem daaFlags_c_of_sum {a : Byte} {f : Flags} (hn : f.n = false) :
    (daaFlags a f).c = true ↔ f.c = true ∨ 0x99 < a.toNat := by
  simp [daaFlags, daaCarry, hn]

theorem daaFlags_c_of_difference {a : Byte} {f : Flags} (hn : f.n = true) : (daaFlags a f).c = f.c := by
  simp [daaFlags, daaCarry, hn]

section
variable {x y : Nat} (hx : x < 100) (hy : y < 100) (c : Bool)
include hx hy

/-- After an addition DAA corrects the high digit where the decimal sum carries, and the low digit where the low digits' sum does. -/
theorem add8_bcd_corrections :
    ((add8 (bcd x) (bcd y) c).2.c = true ∨ 0x99 < (add8 (bcd x) (bcd y) c).1.toNat ↔ 100 ≤ x + y + c.toNat) ∧
      ((add8 (bcd x) (bcd y) c).2.h = true ∨ 9 < (add8 (bcd x) (bcd y) c).1.toNat % 16 ↔
        10 ≤ x % 10 + y % 10 + c.toNat) := by
  obtain ⟨hr, -, -, hh, hc⟩ := add8_result (bcd x) (bcd y) c
  have hc1 := c.toNat_le
  rw [hr, hh, hc, toNat_bcd hx, toNat_bcd hy]
  have hwrap (r : Nat) : 0xFF < r ∨ 0x99 < r % 256 ↔ 0x99 < r := by omega
  rw [hwrap]
  omega

/-- After a subtraction the carries are the decimal borrows. -/
theorem sub8_bcd_corrections :
    ((sub8 (bcd x) (bcd y) c).2.c = true ↔ x < y + c.toNat) ∧
      ((sub8 (bcd x) (bcd y) c).2.h = true ↔ x % 10 < y % 10 + c.toNat) := by
  obtain ⟨hc, hh⟩ := sub8_borrows (bcd x) (bcd y) c
  have hc1 := c.toNat_le
  rw [hh, hc, toNat_bcd hx, toNat_bcd hy]
  omega

theorem daaValue_add8_bcd :
    daaValue (add8 (bcd x) (bcd y) c).1 (add8 (bcd x) (bcd y) c).2 = bcd ((x + y + c.toNat) % 100) := by
  obtain ⟨hhigh, hlow⟩ := add8_bcd_corrections hx hy c
  have hn : (add8 (bcd x) (bcd y) c).2.n = false := rfl
  have hc1 := c.toNat_le
  apply BitVec.eq_of_toNat_eq
  rw [toNat_daaValue, toNat_bcd (Nat.mod_lt _ (by decide))]
  simp only [daaNumber, hn, hhigh, hlow, Bool.false_eq_true, if_false]
  rw [(add8_result _ _ _).1, toNat_bcd hx, toNat_bcd hy]
  split <;> split <;> omega

theorem daaValue_sub8_bcd :
    daaValue (sub8 (bcd x) (bcd y) c).1 (sub8 (bcd x) (bcd y) c).2 = bcd ((x + 200 - y - c.toNat) % 100) := by
  obtain ⟨hhigh, hlow⟩ := sub8_bcd_corrections hx hy c
  have hn : (sub8 (bcd x) (bcd y) c).2.n = true := rfl
  have hdiff := (sub8_result (bcd x) (bcd y) c).1
  have hc1 := c.toNat_le
  rw [toNat_bcd hx, toNat_bcd hy] at hdiff
  apply BitVec.eq_of_toNat_eq
  rw [toNat_daaValue, toNat_bcd (Nat.mod_lt _ (by decide))]
  simp only [daaNumber, hn, hhigh, hlow, if_true]
  split <;> split <;> omega

theorem daaFlags_add8_bcd_c :
    (daaFlags (add8 (bcd x) (bcd y) c).1 (add8 (bcd x) (bcd y) c).2).c = true ↔ 100 ≤ x + y + c.toNat :=
  (daaFlags_c_of_sum rfl).trans (add8_bcd_corrections hx hy c).1

theorem daaFlags_sub8_bcd_c :
    (daaFlags (sub8 (bcd x) (bcd y) c).1 (sub8 (bcd x) (bcd y) c).2).c = true ↔ x < y + c.toNat := by
  rw [daaFlags_c_of_difference rfl]
  exact (sub8_bcd_corrections hx hy c).1

end

/-- Settles O14: DAA corrects exactly the digits whose decimal sum or difference carries or borrows. -/
theorem decimalAdjustIsDecimal : Obligations.DecimalAdjustIsDecimal :=
  fun _ _ c hx hy => ⟨daaValue_add8_bcd hx hy c, daaFlags_add8_bcd_c hx hy c, daaValue_sub8_bcd hx hy c,
    daaFlags_sub8_bcd_c hx hy c⟩

end Sys2Proof.Proofs
end

section
/-! The rotates of A. -/

namespace Sys2Proof.Proofs

open Sys2Proof.Machine Sys2Proof.Safety Sys2Proof.Laws Sys2Proof.Claims

/-! ## RLCA, RRCA, RLA and RRA (44_rotate_shift.md R180 to R183) -/

theorem shiftCarry_eq_shiftCarryOut (op : ShiftOp) (v : Byte) : shiftCarry op v = shiftCarryOut op v :=
  congrArg Flags.c (shiftFlags_eq_shiftedFlags op false v)

/-- Unlike `shiftFlags`, the flags of the rotates of A do not look at the result. -/
theorem accShiftFlags_result (op : ShiftOp) (v : Byte) :
    FlagsAre (accShiftFlags op v) False False False (shiftCarryOut op v = true) := by
  rw [accShiftFlags, shiftCarry_eq_shiftCarryOut]
  simp [FlagsAre]

theorem ends_of_shiftA {i : Instr} {op : ShiftOp} {s : State} (hi : exec i s = shiftA op s) :
    Ends i [.reg .a, .flags] 0
      (fun t => t.cpu.a.toNat = shiftNumber op s.cpu.a.toNat s.cpu.f.c.toNat ∧
        FlagsAre t.cpu.f False False False (shiftCarryOut op s.cpu.a = true)) s :=
  ⟨_, hi, ⟨toNat_shiftValue op s.cpu.a s.cpu.f.c, accShiftFlags_result op s.cpu.a⟩, kept_setAF _ s⟩

/-- Settles O17: each of the four rows is the one rotate of A with its own operation. -/
theorem accumulatorRotates : Obligations.AccumulatorRotates := by
  intro s i op code hrow
  simp only [List.mem_cons, List.not_mem_nil, or_false, Prod.mk.injEq] at hrow
  obtain ⟨rfl, rfl, rfl⟩ | ⟨rfl, rfl, rfl⟩ | ⟨rfl, rfl, rfl⟩ | ⟨rfl, rfl, rfl⟩ := hrow
  · exact ⟨rfl, ends_of_shiftA (exec_rlca s)⟩
  · exact ⟨rfl, ends_of_shiftA (exec_rrca s)⟩
  · exact ⟨rfl, ends_of_shiftA (exec_rla s)⟩
  · exact ⟨rfl, ends_of_shiftA (exec_rra s)⟩

end Sys2Proof.Proofs
end

section
/-! The PPU cycle by cycle: one cycle counts or makes a transition (`PpuTransitions`), and moves the place in the frame by one; from
that, by induction on the cycles, what any time passing does to the place and to the V-Blank request. -/

namespace Sys2Proof.Proofs

open Sys2Proof.Machine Sys2Proof.Safety Sys2Proof.Laws

/-! ## One cycle (60_exceptions.md R270, R271) -/

section
variable {gates : Bool} {p : Ppu}

/-- The loop leaves a clock inside the mode. -/
theorem run_inside (f : Nat) (h : p.clock < p.mode.duration) : p.run f = p := by
  cases f with
  | zero => rfl
  | succ f => exact if_pos h

theorem advance_running (hs : p.stopped gates = false) (n : Nat) :
    p.advance gates n = ({ p with clock := p.clock + n } : Ppu).run ((p.clock + n) / 80) :=
  if_neg (by simp [hs])

/-- Time that ends inside the mode only counts. -/
theorem advance_inside (hs : p.stopped gates = false) {n : Nat} (hc : p.clock + n < p.mode.duration) :
    p.advance gates n = { p with clock := p.clock + n } :=
  (advance_running hs n).trans (run_inside _ hc)

/-- The last cycle of a mode makes the transition. -/
theorem advance_last_cycle (hs : p.stopped gates = false) (hc : p.clock + 1 = p.mode.duration) :
    p.advance gates 1 = ({ p with clock := 0 } : Ppu).transition := by
  have hdur := duration_ge p.mode
  obtain ⟨f, hf⟩ : ∃ f, (p.clock + 1) / 80 = f + 1 := Nat.exists_eq_succ_of_ne_zero (by omega)
  rw [advance_running hs, hf, Ppu.run, if_neg (by simp [hc])]
  simp only [hc, Nat.sub_self]
  refine run_inside f ?_
  rw [transition_clock]
  exact Nat.lt_of_lt_of_le (show 0 < 80 by decide) (duration_ge _)

/-- The next cycle stays inside the mode or is its last. -/
theorem clock_inside_or_last (h : PpuOk gates p) :
    p.clock + 1 < p.mode.duration ∨ p.clock + 1 = p.mode.duration := Nat.lt_or_eq_of_le h.clock

theorem stopped_eq_true : p.stopped gates = true ↔ gates = true ∧ p.lcdc.getLsbD 7 = false := by
  simp [Ppu.stopped]

end

/-- Settles O49: a cycle counts or makes one of the six transitions. -/
theorem ppuTransitions : Obligations.PpuTransitions := by
  intro gates p
  refine ⟨fun hoff => ⟨stopped_eq_true.2 hoff, advance_stopped (stopped_eq_true.2 hoff)⟩,
    fun hon => Bool.eq_false_of_not_eq_true (hon ∘ stopped_eq_true.1), fun hs => ⟨advance_inside hs, fun hc => ?_⟩⟩
  dsimp only
  rw [advance_last_cycle hs hc]
  split
  next h => exact transition_oamSearch h
  next h => exact transition_pixelTransfer h
  next h =>
    split
    next hl => exact transition_toVBlank (p := { p with clock := 0 }) h hl
    next hl => exact transition_nextLine (p := { p with clock := 0 }) h hl
  next h =>
    split
    next hl => exact transition_frameEnd (p := { p with clock := 0 }) h hl
    next hl => exact transition_vBlankLine (p := { p with clock := 0 }) h hl

/-! ## The place in the frame (R275) -/

/-- The mode at a place in the frame. -/
def modeAt (place : Nat) : PpuMode :=
  if 65664 ≤ place then .vBlank
  else if place % 456 < 80 then .oamSearch
  else if place % 456 < 252 then .pixelTransfer
  else .hBlank

section
variable {gates : Bool} {p q : Ppu}

theorem framePosition_lt (h : PpuOk gates p) : framePosition p < 70224 := by
  have hclock := h.clock
  have hline := h.line
  unfold framePosition
  cases hm : p.mode <;> simp only [hm, PpuMode.duration, LineFits] at hclock hline ⊢ <;> omega

theorem ly_eq_of_framePosition (h : PpuOk gates p) : p.ly = framePosition p / 456 := by
  have hclock := h.clock
  unfold framePosition
  cases hm : p.mode <;> simp only [hm, PpuMode.duration] at hclock ⊢ <;> omega

theorem mode_eq_modeAt (h : PpuOk gates p) : p.mode = modeAt (framePosition p) := by
  have hclock := h.clock
  have hline := h.line
  unfold framePosition modeAt
  cases hm : p.mode <;> simp only [hm, PpuMode.duration, LineFits] at hclock hline ⊢
  case vBlank => rw [if_pos (by omega)]
  case oamSearch => rw [if_neg (by omega), if_pos (by omega)]
  case pixelTransfer => rw [if_neg (by omega), if_neg (by omega), if_pos (by omega)]
  case hBlank => rw [if_neg (by omega), if_neg (by omega), if_neg (by omega)]

/-- The place in the frame determines the timing state. -/
theorem eq_of_framePosition_eq (hp : PpuOk gates p) (hq : PpuOk gates q) (h : framePosition q = framePosition p) :
    q.mode = p.mode ∧ q.clock = p.clock ∧ q.ly = p.ly := by
  have hmode : q.mode = p.mode := by rw [mode_eq_modeAt hq, h, mode_eq_modeAt hp]
  have hly : q.ly = p.ly := by rw [ly_eq_of_framePosition hq, h, ly_eq_of_framePosition hp]
  refine ⟨hmode, ?_, hly⟩
  unfold framePosition at h
  rw [hmode, hly] at h
  omega

/-- The last cycle of H-Blank on line 143 is the one before place 65664, where V-Blank begins. -/
theorem vBlank_next_iff (h : PpuOk gates p) :
    framePosition p + 1 = 65664 ↔ p.mode = .hBlank ∧ p.ly = 143 ∧ p.clock + 1 = p.mode.duration := by
  have hclock := h.clock
  have hline := h.line
  unfold framePosition
  cases hm : p.mode <;>
    simp only [hm, PpuMode.duration, LineFits, reduceCtorEq, true_and, false_and, iff_false] at hclock hline ⊢ <;> omega

theorem transition_reqVblank (p : Ppu) :
    p.transition.reqVblank = true ↔ p.reqVblank = true ∨ p.mode = .hBlank ∧ p.ly = 143 := by
  rcases transition_cases p with h | h | ⟨h, hl⟩ | ⟨h, hl⟩ | ⟨h, hl⟩ | ⟨h, hl⟩
  · simp [transition_oamSearch h, h]
  · simp [transition_pixelTransfer h, h]
  · simp [transition_toVBlank h hl, h, hl]
  · simp [transition_nextLine h hl, atLine, hl]
  · simp [transition_frameEnd h hl, atLine, h]
  · simp [transition_vBlankLine h hl, atLine, h]

theorem framePosition_counted (n : Nat) (p : Ppu) :
    framePosition { p with clock := p.clock + n } = framePosition p + n := by
  unfold framePosition
  dsimp only
  omega

/-- A cycle moves the place in the frame by one. -/
theorem framePosition_advance_one (h : PpuOk gates p) (hs : p.stopped gates = false) :
    framePosition (p.advance gates 1) = (framePosition p + 1) % 70224 := by
  have hlt := framePosition_lt (ppuOk_advance h 1)
  rcases clock_inside_or_last h with hc | hc
  · rw [advance_inside hs hc, framePosition_counted] at hlt ⊢
    exact (Nat.mod_eq_of_lt hlt).symm
  · have hstep := framePosition_transition (p := { p with clock := p.clock + 1 }) ⟨h.line, h.coin⟩ hc.ge
    rw [advance_last_cycle hs hc] at hlt ⊢
    rw [framePosition_counted] at hstep
    simp only [hc, Nat.sub_self] at hstep
    split at hstep <;> omega

/-- A cycle raises the V-Blank request exactly where V-Blank begins (R273). -/
theorem reqVblank_advance_one (h : PpuOk gates p) (hs : p.stopped gates = false) :
    (p.advance gates 1).reqVblank = true ↔ p.reqVblank = true ∨ framePosition p + 1 = 65664 := by
  rw [vBlank_next_iff h]
  rcases clock_inside_or_last h with hc | hc
  · rw [advance_inside hs hc]
    simp [Nat.ne_of_lt hc]
  · rw [advance_last_cycle hs hc, transition_reqVblank]
    simp [hc]

/-! ## Any number of cycles -/

theorem framePosition_advance (h : PpuOk gates p) (hs : p.stopped gates = false) (n : Nat) :
    framePosition (p.advance gates n) = (framePosition p + n) % 70224 := by
  induction n with
  | zero => rw [advance_inside hs h.clock]; exact (Nat.mod_eq_of_lt (framePosition_lt h)).symm
  | succ n ih =>
    rw [← ppu_advance_add, framePosition_advance_one (ppuOk_advance h n) (by rw [stopped_advance, hs]), ih]
    omega

/-- The V-Blank request is raised exactly when V-Blank begins on the way: 4560 cycles, its ten lines, before a frame ends. -/
theorem reqVblank_advance (h : PpuOk gates p) (hs : p.stopped gates = false) (n : Nat) :
    (p.advance gates n).reqVblank = true ↔
      p.reqVblank = true ∨ (framePosition p + 4560) / 70224 < (framePosition p + n + 4560) / 70224 := by
  induction n with
  | zero => rw [advance_inside hs h.clock]; simp
  | succ n ih =>
    rw [← ppu_advance_add, reqVblank_advance_one (ppuOk_advance h n) (by rw [stopped_advance, hs]), ih,
      framePosition_advance h hs, or_assoc]
    refine or_congr_right ?_
    omega

end

/-- Settles O47: the invariant is the loop's, place and request go by the cycle, and a place has one timing state. -/
theorem ppuKeepsFrameTime : Obligations.PpuKeepsFrameTime := by
  intro gates p n h hs
  have hq := ppuOk_advance h n
  have hplace := framePosition_advance h hs n
  refine ⟨hq, hplace, reqVblank_advance h hs n, fun hn => ?_⟩
  subst hn
  rw [Nat.add_mod_right, Nat.mod_eq_of_lt (framePosition_lt h)] at hplace
  obtain ⟨hmode, hclock, hly⟩ := eq_of_framePosition_eq h hq hplace
  exact ⟨hmode, hclock, hly, by rw [hq.coin, h.coin, hly, ppu_advance_lyc]⟩

end Sys2Proof.Proofs
end

section
/-! Time on the bus: the timer's edges counted from the statement's terms, and the aggregation of requests between two updates. -/

namespace Sys2Proof.Proofs

open Sys2Proof.Machine Sys2Proof.Safety Sys2Proof.Laws

/-! ## The timer (60_exceptions.md R260 to R262) -/

theorem enabled_iff (t : Timer) : t.enabled = true ↔ 4 ≤ t.tac.toNat := by
  unfold Timer.enabled
  generalize t.tac = tac
  revert tac
  decide

/-- The edges that `n` cycles make. -/
def edgesIn (n : Nat) (t : Timer) : Nat :=
  if 4 ≤ t.tac.toNat then (t.counter.toNat + n) / t.divisor - t.counter.toNat / t.divisor else 0

theorem advance_eq_edges (n : Nat) (t : Timer) :
    t.advance n = ({ t with counter := BitVec.ofNat 16 (t.counter.toNat + n) } : Timer).edges (edgesIn n t) := by
  unfold Timer.advance edgesIn
  dsimp only
  simp only [enabled_iff]
  split <;> rfl

theorem advance_tima (n : Nat) (t : Timer) :
    (t.advance n).tima.toNat = (if t.tima.toNat + edgesIn n t ≤ 0xFF then t.tima.toNat + edgesIn n t
      else t.tma.toNat + (t.tima.toNat + edgesIn n t - 256) % (256 - t.tma.toNat)) := by
  rw [advance_eq_edges, edges_tima]

theorem advance_req (n : Nat) (t : Timer) :
    (t.advance n).req = true ↔ t.req = true ∨ 0xFF < t.tima.toNat + edgesIn n t := by
  rw [advance_eq_edges, edges_req]

/-- Settles O46: the statement's divisor is TAC's, its `k` the edges of the advance. -/
theorem timerAdvance : Obligations.TimerAdvance := by
  intro t n divisor k u
  have hdivisor : divisor = t.divisor := by
    unfold divisor Timer.divisor
    generalize t.tac = tac
    revert tac
    decide
  have hk : k = edgesIn n t := by unfold k edgesIn; rw [hdivisor]
  rw [hk]
  exact ⟨congrArg BitVec.toNat (advance_counter n t), advance_tma n t, advance_tac n t, advance_tima n t, advance_req n t⟩

/-! ## Two updates are one (R241) -/

/-- The requests of the four sources as a byte of IF (R242). -/
def requestMask (vblank stat timer input : Bool) : Byte :=
  0#3 ++ BitVec.ofBool input ++ 0#1 ++ BitVec.ofBool timer ++ BitVec.ofBool stat ++ BitVec.ofBool vblank

theorem requestMask_or (vblank stat timer input vblank' stat' timer' input' : Bool) :
    requestMask (vblank || vblank') (stat || stat') (timer || timer') (input || input') =
      requestMask vblank stat timer input ||| requestMask vblank' stat' timer' input' := by
  revert vblank stat timer input vblank' stat' timer' input'
  decide

/-- The bus with requests added to those it has. -/
def withAllRequests (vblank stat timer input : Bool) (b : Bus) : Bus :=
  { b with
    ppu := withRequests vblank stat b.ppu
    timer := { b.timer with req := timer || b.timer.req }
    input := { b.input with req := input || b.input.req } }

/-- The bus with its requests clear. -/
def withoutRequests (b : Bus) : Bus :=
  { b with
    ppu := { b.ppu with reqVblank := false, reqStat := false }
    timer := { b.timer with req := false }
    input := { b.input with req := false } }

/-- A bus is itself without requests, its own requests added. -/
theorem withAllRequests_withoutRequests (b : Bus) :
    withAllRequests b.ppu.reqVblank b.ppu.reqStat b.timer.req b.input.req (withoutRequests b) = b := by
  simp [withAllRequests, withoutRequests, withRequests]

theorem advance_withAllRequests (vblank stat timer input : Bool) (n : Nat) (b : Bus) :
    (withAllRequests vblank stat timer input b).advance n = withAllRequests vblank stat timer input (b.advance n) := by
  unfold Bus.advance withAllRequests
  dsimp only
  rw [advance_withRequests, advance_withReq]

/-- The aggregation takes an added request as if its bit were set in IF. -/
theorem aggregate_withAllRequests (vblank stat timer input : Bool) (b : Bus) :
    (withAllRequests vblank stat timer input b).aggregate =
      ({ b with intFlag := b.intFlag ||| requestMask vblank stat timer input }).aggregate := by
  unfold Bus.aggregate withAllRequests
  dsimp only
  congr 1
  exact (congrArg (b.intFlag ||| ·) (requestMask_or ..)).trans (BitVec.or_assoc ..).symm

/-- An aggregation between an advance and the next aggregation is lost in it. -/
theorem aggregate_advance_aggregate (n : Nat) (b : Bus) :
    (b.aggregate.advance n).aggregate = (b.advance n).aggregate := by
  conv_rhs => rw [← withAllRequests_withoutRequests b, advance_withAllRequests, aggregate_withAllRequests]
  rfl

theorem bus_advance_add (m n : Nat) (b : Bus) : (b.advance m).advance n = b.advance (m + n) := by
  unfold Bus.advance
  dsimp only
  rw [ppu_advance_add, timer_advance_add]

/-- Settles O48: the advances add up, and the aggregation between them is lost in the one after them. -/
theorem updateIsAdditive : Obligations.UpdateIsAdditive := by
  intro b m n
  calc ((b.advance m).aggregate.advance n).aggregate
      = ((b.advance m).advance n).aggregate := aggregate_advance_aggregate n (b.advance m)
    _ = (b.advance (m + n)).aggregate := by rw [bus_advance_add]

end Sys2Proof.Proofs
end

section
/-! The poll's service: the state it pushes in, and how the push ends. -/

namespace Sys2Proof.Proofs

open Sys2Proof.Machine Sys2Proof.Safety Sys2Proof.Laws Sys2Proof.Claims

/-! ## The service (60_exceptions.md R252 to R255) -/

/-- The statement's description of the state in which service pushes is the model's. -/
theorem eq_acknowledge {i : Fin 5} {s u : State} (h : Acknowledged i s u) : u = s.acknowledge i := by
  obtain ⟨cpu, bus, tally, cycles, status⟩ := u
  obtain ⟨hbus, hcpu, htally, hcycles, hstatus⟩ := h
  dsimp only at hbus hcpu htally hcycles hstatus
  subst hbus hcpu htally hcycles hstatus
  rfl

section
variable {s : State} {i : Fin 5} {kind : FaultKind}

/-- A service whose push fails at its first byte. -/
theorem poll_first_fault (hime : s.cpu.ime = true) (hp : s.bus.pending = some i)
    (hk : (s.acknowledge i).bus.write (s.cpu.sp - 1#16) (hiByte s.cpu.pc) = .error kind) :
    poll s = raise kind (stackState (s.cpu.sp - 1#16) (s.acknowledge i).bus 0 (s.acknowledge i)) :=
  (poll_service hime hp).trans (push16Then_first (s := s.acknowledge i) hk _)

/-- A service whose push fails at its second byte. -/
theorem poll_second_fault {b : Bus} (hime : s.cpu.ime = true) (hp : s.bus.pending = some i)
    (hb : (s.acknowledge i).bus.write (s.cpu.sp - 1#16) (hiByte s.cpu.pc) = .ok b)
    (hk : b.write (s.cpu.sp - 2#16) (loByte s.cpu.pc) = .error kind) :
    poll s = raise kind (stackState (s.cpu.sp - 2#16) b 4 (s.acknowledge i)) :=
  (poll_service hime hp).trans (push16Then_second (s := s.acknowledge i) hb hk _)

end

/-- Settles O54: the poll finds nothing, or the lowest source, whose push completes or fails at one of its bytes. -/
theorem pollServicesTheLowestInterrupt : Obligations.PollServicesTheLowestInterrupt := by
  intro s
  refine ⟨fun hidle => poll_idle (hidle.imp_right (pending_eq_none _).2), fun i u hime hi hu => ?_⟩
  obtain ⟨hlt, hbit, hlowest⟩ := hi
  have hp : s.bus.pending = some ⟨i, hlt⟩ := pending_eq_some hbit hlowest
  obtain rfl : u = s.acknowledge ⟨i, hlt⟩ := eq_acknowledge hu
  exact ⟨fun b b' => poll_served hime hp, fun kind => poll_first_fault hime hp, fun b kind => poll_second_fault hime hp⟩

end Sys2Proof.Proofs
end

section
/-! Reset: the state `State.reset`, and the two columns of the reset table. -/

namespace Sys2Proof.Proofs

open Sys2Proof.Machine Sys2Proof.Safety Sys2Proof.Laws Sys2Proof.Claims

/-! ## The default launch (assumption logs 1 to 5) -/

theorem arraysOk_reset : ArraysOk State.reset.bus :=
  ⟨arrayOk_nil _, arrayOk_nil _, arrayOk_nil _, arrayOk_nil _, arrayOk_nil _, arrayOk_nil _, arrayOk_nil _⟩

/-- Settles O58: a reset state meets the invariant when its arrays are in order, and those of the default launch are empty. -/
theorem resetMeetsTheInvariant : Obligations.ResetMeetsTheInvariant :=
  ⟨inv_atReset Launch.empty arraysOk_reset, inv_atReset⟩

/-! ## The reset table (70_reset_and_hazards.md R300, R301) -/

/-- Settles O59: most rows are the same in every launch; the others turn on whether there is a boot image. -/
theorem resetTable : Obligations.ResetTable := by
  intro launch s
  refine ⟨⟨rfl, rfl, rfl, rfl, rfl⟩, ⟨rfl, ⟨rfl, rfl, rfl⟩, rfl, rfl⟩, ⟨rfl, rfl, rfl⟩,
    ⟨rfl, rfl, rfl, rfl, rfl, rfl, rfl, rfl, rfl⟩, ⟨rfl, rfl, rfl, rfl, rfl, rfl, rfl, rfl, rfl, rfl⟩,
    fun hnone => ?noBoot, fun image hsome => ?boot⟩
  case noBoot =>
    have hnoBoot : launch.bootImage.isNone = true := Option.isNone_iff_eq_none.2 hnone
    simp [s, State.atReset, hnoBoot, InitRegs.noBoot, Flags.toByte]
  case boot => simp [s, State.atReset, hsome]

end Sys2Proof.Proofs
end
